-- ==== Sys2Proof/Word.lean ====
section
/-! DEFINITION. The block's word types: an 8-bit register value, a 16-bit operation word, a register index. -/

namespace Sys2Proof

/-- A register value: every register is 8 bits and every access moves one byte (00_scope.md R9, 20_memory.md R51). -/
abbrev Byte := BitVec 8

/-- An operation word `W` (30_encoding.md R70). -/
abbrev OpWord := BitVec 16

/-- A register index, 0 to 15 (20_memory.md R50). -/
abbrev Index := Fin 16

end Sys2Proof
end

