-- ==== Sys2Proof/Config.lean ====
section
/-! DEFINITION. What the source leaves to the implementation: the open parameters of 00_scope.md R10, and the free values
that a run draws (the undetermined reads, the input levels of a tick). -/

namespace Sys2Proof

/-- The two ports of chip B (00_scope.md section 6). -/
inductive Port where
  | a
  | b
deriving DecidableEq, Repr, Inhabited

/-- One of the 16 line positions: a port and a bit of it (43_step.md R201). -/
structure Pos where
  port : Port
  bit : Fin 8
deriving DecidableEq, Repr, Inhabited

/-- The roles a position can have (43_step.md R201). -/
inductive Role where
  | p0Clk
  | p0Data
  | p1Clk
  | p1Data
  | joyData1
  | joyData2
  | joyLatch
  | joyClk
  | high
deriving DecidableEq, Repr, Inhabited

/-- `PIN_MAP` (43_step.md R201), held as the position of each of the eight roles other than `HIGH`: `portOf(r)` and
`bitOf(r)` are the field of `r`, and a position that no field names is `HIGH`. So every map has each role somewhere;
`PinMap.wellFormed` says that no two share a position. DESIGN CHOICE of the shape, safe: see log entry 15. -/
structure PinMap where
  p0Clk : Pos
  p0Data : Pos
  p1Clk : Pos
  p1Data : Pos
  joyData1 : Pos
  joyData2 : Pos
  joyLatch : Pos
  joyClk : Pos
deriving DecidableEq, Repr, Inhabited

/-- The positions of the eight roles, in the order R201 lists them. -/
def PinMap.positions (m : PinMap) : List Pos :=
  [m.p0Clk, m.p0Data, m.p1Clk, m.p1Data, m.joyData1, m.joyData2, m.joyLatch, m.joyClk]

/-- Each of the eight roles is at exactly one position, and no position has two (43_step.md R201). -/
def PinMap.wellFormed (m : PinMap) : Bool :=
  decide m.positions.Nodup

/-- `IER_READ_BIT7` (00_scope.md R10): what bit 7 of a read of chip B index 14 is. -/
inductive IerReadBit7 where
  | zero
  | one
  | draw
deriving DecidableEq, Repr, Inhabited

/-- `PORT_WRITE_CLEARS` (00_scope.md R10, 90_conflicts.md C1): the edge flag a write of a port register clears: none,
the flag of the port that is written, or the other port's. -/
inductive PortWriteClears where
  | none
  | same
  | cross
deriving DecidableEq, Repr, Inhabited

/-- The open parameters of 00_scope.md R10 that some rule of the spec uses. -/
structure Params where
  pinMap : PinMap
  /-- `CA_MON_BIT`: the port-A line whose falling edge sets the CA-equivalent flag. -/
  caMonBit : Fin 8
  /-- `CB_MON_BIT`: the port-B line whose falling edge sets the CB-equivalent flag. -/
  cbMonBit : Fin 8
  /-- `CA_FLAG_BIT`: the IFR bit of the CA-equivalent flag. -/
  caFlagBit : Fin 7
  /-- `CB_FLAG_BIT`: the IFR bit of the CB-equivalent flag. -/
  cbFlagBit : Fin 7
  ierReadBit7 : IerReadBit7
  portWriteClears : PortWriteClears
  romBankInit : BitVec 3
  ramBankInit : Byte
deriving DecidableEq, Repr, Inhabited

/-- The parameters are ones R10 admits: a well-formed pin map, and two different flag bits. -/
def Params.wellFormed (p : Params) : Bool :=
  p.pinMap.wellFormed && decide (p.caFlagBit ≠ p.cbFlagBit)

/-- The reference values of 00_scope.md R10, with the reference map of 43_step.md R201. They are the values the spec's
vectors use and no claim of the source; only tests and witnesses use them. -/
def Params.reference : Params where
  pinMap :=
    { p0Data := ⟨.a, 0⟩, p0Clk := ⟨.a, 1⟩, joyLatch := ⟨.a, 2⟩, joyData1 := ⟨.a, 3⟩
      joyData2 := ⟨.a, 4⟩, joyClk := ⟨.a, 5⟩, p1Data := ⟨.b, 0⟩, p1Clk := ⟨.b, 1⟩ }
  caMonBit := 1
  cbMonBit := 1
  caFlagBit := 1
  cbFlagBit := 4
  ierReadBit7 := .draw
  portWriteClears := .none
  romBankInit := 0
  ramBankInit := 0

/-- The six environment inputs of one step (43_step.md R202), true for the passive (high) level. -/
structure Lines where
  p0ClkOut : Bool
  p0DataOut : Bool
  p1ClkOut : Bool
  p1DataOut : Bool
  joyData1 : Bool
  joyData2 : Bool
deriving DecidableEq, Repr, Inhabited

/-- A parameter set about which nothing is known. -/
opaque Config.anyParams : Params

/-- The parameters of the machine that reset makes: some set that R10 admits, which one is open (DESIGN CHOICE, safe:
log entry 5). Every well-formed set is a possible value; an ill-formed one is replaced. -/
def Config.params : Params :=
  if Config.anyParams.wellFormed then Config.anyParams else Params.reference

/-- `draw8()`: the byte of the n-th draw, under no law (00_scope.md section 5; log entry 4). -/
opaque Config.freeByte : Nat → Byte

/-- `drawbit()`: the bit of the n-th draw, under no law (00_scope.md section 5; log entry 4). -/
opaque Config.freeBit : Nat → Bool

/-- The input levels of a tick for which none were given, under no law (43_step.md R202, 92_eei_decisions.md D25;
log entry 3). -/
opaque Config.freeLines : Nat → Lines

end Sys2Proof
end

