-- ==== Sys2Proof/Syntax.lean ====
section
/-! DEFINITION. The block's operations as syntax: one constructor of `Instr` per row of spec/opcode_table.json, the
fields of an operation word, and the calls the host makes. -/

namespace Sys2Proof

/-- The two chip instances (00_scope.md R2). -/
inductive Chip where
  | a
  | b
deriving DecidableEq, Repr, Inhabited

/-- The four operations, as `W[15:14]` spells them (30_encoding.md R71). -/
inductive Op where
  | read
  | write
  | step
  | irq
deriving DecidableEq, Repr, Inhabited

/-- Why an operation is refused (60_exceptions.md R222). -/
inductive RefuseReason where
  /-- A `read` or `write` whose index is above 15 (20_memory.md R53). -/
  | indexOutOfRange
  /-- An operation word with `W[13] = 1` (30_encoding.md R74). -/
  | reservedBit
  /-- A READ word with data, or a STEP or IRQ word with any field set (30_encoding.md R74). -/
  | nonZeroField
deriving DecidableEq, Repr, Inhabited

/-- The fields of an operation word other than its reserved bit (30_encoding.md R71). -/
structure Fields where
  op : Op
  chip : Chip
  index : Index
  data : Byte
deriving DecidableEq, Repr, Inhabited

/-- The 66 instructions (30_encoding.md R73): `rda<i>` and `rdb<i>` read index i of chip A and of chip B, `wra<i>` and
`wrb<i>` write it with the data byte, `step` is one tick, `irq` is `get_irq_out`. -/
inductive Instr where
  | rda0
  | rda1
  | rda2
  | rda3
  | rda4
  | rda5
  | rda6
  | rda7
  | rda8
  | rda9
  | rda10
  | rda11
  | rda12
  | rda13
  | rda14
  | rda15
  | wra0 (v : Byte)
  | wra1 (v : Byte)
  | wra2 (v : Byte)
  | wra3 (v : Byte)
  | wra4 (v : Byte)
  | wra5 (v : Byte)
  | wra6 (v : Byte)
  | wra7 (v : Byte)
  | wra8 (v : Byte)
  | wra9 (v : Byte)
  | wra10 (v : Byte)
  | wra11 (v : Byte)
  | wra12 (v : Byte)
  | wra13 (v : Byte)
  | wra14 (v : Byte)
  | wra15 (v : Byte)
  | rdb0
  | rdb1
  | rdb2
  | rdb3
  | rdb4
  | rdb5
  | rdb6
  | rdb7
  | rdb8
  | rdb9
  | rdb10
  | rdb11
  | rdb12
  | rdb13
  | rdb14
  | rdb15
  | wrb0 (v : Byte)
  | wrb1 (v : Byte)
  | wrb2 (v : Byte)
  | wrb3 (v : Byte)
  | wrb4 (v : Byte)
  | wrb5 (v : Byte)
  | wrb6 (v : Byte)
  | wrb7 (v : Byte)
  | wrb8 (v : Byte)
  | wrb9 (v : Byte)
  | wrb10 (v : Byte)
  | wrb11 (v : Byte)
  | wrb12 (v : Byte)
  | wrb13 (v : Byte)
  | wrb14 (v : Byte)
  | wrb15 (v : Byte)
  | step
  | irq
deriving DecidableEq, Repr

/-- The operation, chip, index and data byte of an instruction (30_encoding.md R73). -/
def Instr.fields : Instr → Fields
  | .rda0 => ⟨.read, .a, 0, 0⟩
  | .rda1 => ⟨.read, .a, 1, 0⟩
  | .rda2 => ⟨.read, .a, 2, 0⟩
  | .rda3 => ⟨.read, .a, 3, 0⟩
  | .rda4 => ⟨.read, .a, 4, 0⟩
  | .rda5 => ⟨.read, .a, 5, 0⟩
  | .rda6 => ⟨.read, .a, 6, 0⟩
  | .rda7 => ⟨.read, .a, 7, 0⟩
  | .rda8 => ⟨.read, .a, 8, 0⟩
  | .rda9 => ⟨.read, .a, 9, 0⟩
  | .rda10 => ⟨.read, .a, 10, 0⟩
  | .rda11 => ⟨.read, .a, 11, 0⟩
  | .rda12 => ⟨.read, .a, 12, 0⟩
  | .rda13 => ⟨.read, .a, 13, 0⟩
  | .rda14 => ⟨.read, .a, 14, 0⟩
  | .rda15 => ⟨.read, .a, 15, 0⟩
  | .wra0 v => ⟨.write, .a, 0, v⟩
  | .wra1 v => ⟨.write, .a, 1, v⟩
  | .wra2 v => ⟨.write, .a, 2, v⟩
  | .wra3 v => ⟨.write, .a, 3, v⟩
  | .wra4 v => ⟨.write, .a, 4, v⟩
  | .wra5 v => ⟨.write, .a, 5, v⟩
  | .wra6 v => ⟨.write, .a, 6, v⟩
  | .wra7 v => ⟨.write, .a, 7, v⟩
  | .wra8 v => ⟨.write, .a, 8, v⟩
  | .wra9 v => ⟨.write, .a, 9, v⟩
  | .wra10 v => ⟨.write, .a, 10, v⟩
  | .wra11 v => ⟨.write, .a, 11, v⟩
  | .wra12 v => ⟨.write, .a, 12, v⟩
  | .wra13 v => ⟨.write, .a, 13, v⟩
  | .wra14 v => ⟨.write, .a, 14, v⟩
  | .wra15 v => ⟨.write, .a, 15, v⟩
  | .rdb0 => ⟨.read, .b, 0, 0⟩
  | .rdb1 => ⟨.read, .b, 1, 0⟩
  | .rdb2 => ⟨.read, .b, 2, 0⟩
  | .rdb3 => ⟨.read, .b, 3, 0⟩
  | .rdb4 => ⟨.read, .b, 4, 0⟩
  | .rdb5 => ⟨.read, .b, 5, 0⟩
  | .rdb6 => ⟨.read, .b, 6, 0⟩
  | .rdb7 => ⟨.read, .b, 7, 0⟩
  | .rdb8 => ⟨.read, .b, 8, 0⟩
  | .rdb9 => ⟨.read, .b, 9, 0⟩
  | .rdb10 => ⟨.read, .b, 10, 0⟩
  | .rdb11 => ⟨.read, .b, 11, 0⟩
  | .rdb12 => ⟨.read, .b, 12, 0⟩
  | .rdb13 => ⟨.read, .b, 13, 0⟩
  | .rdb14 => ⟨.read, .b, 14, 0⟩
  | .rdb15 => ⟨.read, .b, 15, 0⟩
  | .wrb0 v => ⟨.write, .b, 0, v⟩
  | .wrb1 v => ⟨.write, .b, 1, v⟩
  | .wrb2 v => ⟨.write, .b, 2, v⟩
  | .wrb3 v => ⟨.write, .b, 3, v⟩
  | .wrb4 v => ⟨.write, .b, 4, v⟩
  | .wrb5 v => ⟨.write, .b, 5, v⟩
  | .wrb6 v => ⟨.write, .b, 6, v⟩
  | .wrb7 v => ⟨.write, .b, 7, v⟩
  | .wrb8 v => ⟨.write, .b, 8, v⟩
  | .wrb9 v => ⟨.write, .b, 9, v⟩
  | .wrb10 v => ⟨.write, .b, 10, v⟩
  | .wrb11 v => ⟨.write, .b, 11, v⟩
  | .wrb12 v => ⟨.write, .b, 12, v⟩
  | .wrb13 v => ⟨.write, .b, 13, v⟩
  | .wrb14 v => ⟨.write, .b, 14, v⟩
  | .wrb15 v => ⟨.write, .b, 15, v⟩
  | .step => ⟨.step, .a, 0, 0⟩
  | .irq => ⟨.irq, .a, 0, 0⟩

/-- A call of the host into the block (00_scope.md R6): an operation word (30_encoding.md R70), or a `read` or `write`
as the source has them, whose index the host has not masked to 0..15 (20_memory.md R53). -/
inductive HostCall where
  | word (w : OpWord)
  | read (chip : Chip) (index : Nat)
  | write (chip : Chip) (index : Nat) (v : Byte)
deriving DecidableEq, Repr

end Sys2Proof
end

