-- ==== Sys2Proof/WellFormed.lean ====
section
/-! DEFINITION. When the fields of an operation, an instruction, an operation word and a call of the host are well formed. The checks of
the parameters stand with them in Config. -/

namespace Sys2Proof

/-- The must-be-zero fields of 30_encoding.md R71 are zero: no data for READ, and no chip, index or data for STEP and
IRQ. -/
def Fields.wellFormed (f : Fields) : Bool :=
  match f.op with
  | .read => f.data == 0
  | .write => true
  | .step => f.chip == .a && f.index == 0 && f.data == 0
  | .irq => f.chip == .a && f.index == 0 && f.data == 0

/-- An instruction's fields are well formed. Its types leave nothing else to check: an index is one of 0..15 and a data
byte has 8 bits. -/
def Instr.wellFormed (i : Instr) : Bool :=
  i.fields.wellFormed

/-- The must-be-zero fields of an operation word (30_encoding.md R71, R74): its reserved bit, the data byte of a READ
word, every field of a STEP or IRQ word. -/
def wordWellFormed (w : OpWord) : Bool :=
  !w.getLsbD 13 && (if w.getLsbD 15 then w.extractLsb' 0 13 == 0 else w.getLsbD 14 || w.extractLsb' 0 8 == 0)

/-- A call that meets none of the refusal conditions of 60_exceptions.md R222: the index of a `read` or `write` is in
0..15 (the host's duty, 20_memory.md R63), and a word's must-be-zero fields are zero. -/
def HostCall.wellFormed : HostCall → Bool
  | .word w => wordWellFormed w
  | .read _ k => decide (k < 16)
  | .write _ k _ => decide (k < 16)

end Sys2Proof
end

