-- ==== Sys2Proof/Decode.lean ====
section
/-! DEFINITION. Decoding, total on every 16-bit operation word and refusing by name (30_encoding.md R74), then encoding:
each instruction's word as its own rule of 40_register_file.md, 42_interrupt.md or 43_step.md gives it. -/

namespace Sys2Proof

/-- `W[13]` is set (30_encoding.md R71). -/
def reservedBit (w : OpWord) : Bool :=
  w.getLsbD 13

/-- `W[12]`: 0 is chip A, 1 is chip B (30_encoding.md R76). -/
def chipField (w : OpWord) : Chip :=
  if w.getLsbD 12 then .b else .a

/-- `W[11:8]`, unsigned (30_encoding.md R76). -/
def indexField (w : OpWord) : Index :=
  (w.extractLsb' 8 4).toFin

/-- `W[7:0]`, taken unchanged (30_encoding.md R77). -/
def dataField (w : OpWord) : Byte :=
  w.extractLsb' 0 8

/-- The reads of chip A by index. -/
def readsA : Vector Instr 16 :=
  #v[.rda0, .rda1, .rda2, .rda3, .rda4, .rda5, .rda6, .rda7,
    .rda8, .rda9, .rda10, .rda11, .rda12, .rda13, .rda14, .rda15]

/-- The reads of chip B by index. -/
def readsB : Vector Instr 16 :=
  #v[.rdb0, .rdb1, .rdb2, .rdb3, .rdb4, .rdb5, .rdb6, .rdb7,
    .rdb8, .rdb9, .rdb10, .rdb11, .rdb12, .rdb13, .rdb14, .rdb15]

/-- The writes of chip A by index. -/
def writesA : Vector (Byte → Instr) 16 :=
  #v[.wra0, .wra1, .wra2, .wra3, .wra4, .wra5, .wra6, .wra7,
    .wra8, .wra9, .wra10, .wra11, .wra12, .wra13, .wra14, .wra15]

/-- The writes of chip B by index. -/
def writesB : Vector (Byte → Instr) 16 :=
  #v[.wrb0, .wrb1, .wrb2, .wrb3, .wrb4, .wrb5, .wrb6, .wrb7,
    .wrb8, .wrb9, .wrb10, .wrb11, .wrb12, .wrb13, .wrb14, .wrb15]

/-- `READ(chip, index)`. -/
def readInstr : Chip → Index → Instr
  | .a, k => readsA[k]
  | .b, k => readsB[k]

/-- `WRITE(chip, index, data)`. -/
def writeInstr : Chip → Index → Byte → Instr
  | .a, k, v => writesA[k] v
  | .b, k, v => writesB[k] v

/-- A STEP or IRQ word has no field set (30_encoding.md R74). -/
def sysFieldsZero (w : OpWord) : Bool :=
  chipField w == .a && indexField w == 0 && dataField w == 0

/-- `decode(W)` of 30_encoding.md R74; the reserved bit is tested first (60_exceptions.md R226). -/
def decode (w : OpWord) : Except RefuseReason Instr :=
  if reservedBit w then .error .reservedBit
  else
    match w.getLsbD 15, w.getLsbD 14 with
    | false, false =>
      if dataField w == 0 then .ok (readInstr (chipField w) (indexField w)) else .error .nonZeroField
    | false, true => .ok (writeInstr (chipField w) (indexField w) (dataField w))
    | true, false => if sysFieldsZero w then .ok .step else .error .nonZeroField
    | true, true => if sysFieldsZero w then .ok .irq else .error .nonZeroField

/-- The instruction a call of the host asks for, or why it is refused: an operation word is decoded, and an index above
15 is refused (60_exceptions.md R221). -/
def callInstr : HostCall → Except RefuseReason Instr
  | .word w => decode w
  | .read c k => if h : k < 16 then .ok (readInstr c ⟨k, h⟩) else .error .indexOutOfRange
  | .write c k v => if h : k < 16 then .ok (writeInstr c ⟨k, h⟩ v) else .error .indexOutOfRange

/-- The word whose low `nbits` bits are those of `w` and whose other bits are 0, as spec/opcode_table.json numbers
them. An operation is one 16-bit word and is stored nowhere, so no byte order arises (30_encoding.md R70, 20_memory.md
R52). -/
def tableWord (nbits w : Nat) : OpWord :=
  BitVec.ofNat 16 (w % 2 ^ nbits)

/-- What the decoder reads from a word numbered as spec/opcode_table.json numbers it. -/
def decodeTableWord (nbits w : Nat) : Option Instr :=
  match decode (tableWord nbits w) with
  | .ok i => some i
  | .error _ => none

/-- The operation word of an instruction: the word its rule gives, with the data byte in `W[7:0]` of a write. -/
def encode : Instr → OpWord
  | .rda0 => 0x0000#16
  | .rda1 => 0x0100#16
  | .rda2 => 0x0200#16
  | .rda3 => 0x0300#16
  | .rda4 => 0x0400#16
  | .rda5 => 0x0500#16
  | .rda6 => 0x0600#16
  | .rda7 => 0x0700#16
  | .rda8 => 0x0800#16
  | .rda9 => 0x0900#16
  | .rda10 => 0x0A00#16
  | .rda11 => 0x0B00#16
  | .rda12 => 0x0C00#16
  | .rda13 => 0x0D00#16
  | .rda14 => 0x0E00#16
  | .rda15 => 0x0F00#16
  | .wra0 v => 0x4000#16 ||| v.setWidth 16
  | .wra1 v => 0x4100#16 ||| v.setWidth 16
  | .wra2 v => 0x4200#16 ||| v.setWidth 16
  | .wra3 v => 0x4300#16 ||| v.setWidth 16
  | .wra4 v => 0x4400#16 ||| v.setWidth 16
  | .wra5 v => 0x4500#16 ||| v.setWidth 16
  | .wra6 v => 0x4600#16 ||| v.setWidth 16
  | .wra7 v => 0x4700#16 ||| v.setWidth 16
  | .wra8 v => 0x4800#16 ||| v.setWidth 16
  | .wra9 v => 0x4900#16 ||| v.setWidth 16
  | .wra10 v => 0x4A00#16 ||| v.setWidth 16
  | .wra11 v => 0x4B00#16 ||| v.setWidth 16
  | .wra12 v => 0x4C00#16 ||| v.setWidth 16
  | .wra13 v => 0x4D00#16 ||| v.setWidth 16
  | .wra14 v => 0x4E00#16 ||| v.setWidth 16
  | .wra15 v => 0x4F00#16 ||| v.setWidth 16
  | .rdb0 => 0x1000#16
  | .rdb1 => 0x1100#16
  | .rdb2 => 0x1200#16
  | .rdb3 => 0x1300#16
  | .rdb4 => 0x1400#16
  | .rdb5 => 0x1500#16
  | .rdb6 => 0x1600#16
  | .rdb7 => 0x1700#16
  | .rdb8 => 0x1800#16
  | .rdb9 => 0x1900#16
  | .rdb10 => 0x1A00#16
  | .rdb11 => 0x1B00#16
  | .rdb12 => 0x1C00#16
  | .rdb13 => 0x1D00#16
  | .rdb14 => 0x1E00#16
  | .rdb15 => 0x1F00#16
  | .wrb0 v => 0x5000#16 ||| v.setWidth 16
  | .wrb1 v => 0x5100#16 ||| v.setWidth 16
  | .wrb2 v => 0x5200#16 ||| v.setWidth 16
  | .wrb3 v => 0x5300#16 ||| v.setWidth 16
  | .wrb4 v => 0x5400#16 ||| v.setWidth 16
  | .wrb5 v => 0x5500#16 ||| v.setWidth 16
  | .wrb6 v => 0x5600#16 ||| v.setWidth 16
  | .wrb7 v => 0x5700#16 ||| v.setWidth 16
  | .wrb8 v => 0x5800#16 ||| v.setWidth 16
  | .wrb9 v => 0x5900#16 ||| v.setWidth 16
  | .wrb10 v => 0x5A00#16 ||| v.setWidth 16
  | .wrb11 v => 0x5B00#16 ||| v.setWidth 16
  | .wrb12 v => 0x5C00#16 ||| v.setWidth 16
  | .wrb13 v => 0x5D00#16 ||| v.setWidth 16
  | .wrb14 v => 0x5E00#16 ||| v.setWidth 16
  | .wrb15 v => 0x5F00#16 ||| v.setWidth 16
  | .step => 0x8000#16
  | .irq => 0xC000#16

/-- `W[15:14]` of each operation (30_encoding.md R71). -/
def Op.bits : Op → OpWord
  | .read => 0b00
  | .write => 0b01
  | .step => 0b10
  | .irq => 0b11

/-- `W[12]` of each chip (30_encoding.md R71). -/
def Chip.bit : Chip → OpWord
  | .a => 0
  | .b => 1

/-- The word that holds the fields at the places 30_encoding.md R71 gives them, its reserved bit 0 (R73). -/
def Fields.word (f : Fields) : OpWord :=
  f.op.bits <<< 14 ||| f.chip.bit <<< 12 ||| BitVec.ofNat 16 f.index.val <<< 8 ||| f.data.setWidth 16

end Sys2Proof
end

