-- ==== Sys2Proof/Machine/State.lean ====
section
/-! DEFINITION. The state of the block (10_state.md R20), with what the model adds to drive it, and the state after
reset. -/

namespace Sys2Proof.Machine

/-- Why the machine stops with a fault: never. The block raises no exception and no operation is fallible (60_exceptions.md
R220), and no behaviour of it is a fault or a stuck state (93_implementation_defined.md), so there is no reason to name. -/
inductive Fault where
deriving DecidableEq, Repr

/-- Why the model gives an operation no meaning. An operation that the SPEC refuses is no such case: it takes a next
state, with the refusal mark set (60_exceptions.md R221). -/
inductive Refusal where
  /-- Raised by an arm of `exec` whose instruction has no meaning yet. No arm is left so. Safe: the run stops. -/
  | notModelled (mnemonic : String)
deriving DecidableEq, Repr

/-- Chip A (10_state.md R21): 16 raw slots. Slots 0 and 1 are written by no operation and slots 4, 5, 8 and 9 are read
by none (log entry 11). -/
structure ChipA where
  reg : Vector Byte 16
deriving DecidableEq, Repr

/-- Chip B (10_state.md R22 to R29). -/
structure ChipB where
  /-- The raw slots (R22); 0, 1, 2, 3, 13 and 14 are never observable. -/
  reg : Vector Byte 16
  /-- Direction register of port B, index 2 (R23): 1 is output. -/
  ddrB : Byte
  /-- Direction register of port A, index 3 (R23). -/
  ddrA : Byte
  /-- Output latch of port B, written through index 0 (R24). -/
  outB : Byte
  /-- Output latch of port A, written through index 1 (R24). -/
  outA : Byte
  /-- Resolved pin state of port B (R25). -/
  pinB : Byte
  /-- Resolved pin state of port A (R25). -/
  pinA : Byte
  /-- Readback of port B, read at index 0 (R26). -/
  rbB : Byte
  /-- Readback of port A, read at index 1 (R26). -/
  rbA : Byte
  /-- Interrupt flag register, bits 6:0 (R27). -/
  ifr : BitVec 7
  /-- Interrupt enable register, bits 6:0 (R28). -/
  ier : BitVec 7
  /-- Level of the port-A monitored line at the last step (R29). -/
  prevCA : Bool
  /-- Level of the port-B monitored line at the last step (R29). -/
  prevCB : Bool
deriving DecidableEq, Repr

/-- The bank selector's two values (10_state.md R30). -/
structure Bank where
  romBank : BitVec 3
  ramBank : Byte
deriving DecidableEq, Repr

/-- The six lines the block drives (10_state.md R31), true for high. -/
structure Driven where
  p0ClkIn : Bool
  p0DataIn : Bool
  p1ClkIn : Bool
  p1DataIn : Bool
  joyLatch : Bool
  joyClock : Bool
deriving DecidableEq, Repr

/-- What an operation gives back to the host (20_memory.md R63). -/
inductive Reply where
  /-- Nothing: a write, a step, or no operation yet. -/
  | nothing
  /-- The 8-bit value of a read. -/
  | byte (v : Byte)
  /-- The bit of `get_irq_out`, true for asserted. -/
  | bit (level : Bool)
  /-- No value: the operation was refused, for this reason (60_exceptions.md R221, R226). -/
  | refused (r : RefuseReason)
deriving DecidableEq, Repr

/-- The state `S` of 10_state.md R20 (`chipA` to `refused`), the parameters it runs under, and the host's side of the
interface. -/
structure State where
  chipA : ChipA
  chipB : ChipB
  bank : Bank
  driven : Driven
  /-- The refusal mark (10_state.md R33). -/
  refused : Bool
  /-- The open parameters of 00_scope.md R10, which no operation changes. DESIGN CHOICE, safe: log entry 5. -/
  params : Params
  /-- What the last operation gave back. DESIGN CHOICE, safe: log entry 2. -/
  reply : Reply
  /-- The host's operations not yet issued, oldest first. DESIGN CHOICE, safe: log entry 1. -/
  pending : List HostCall
  /-- Input levels given for the coming ticks, oldest first; a tick for which none are given samples free ones.
  DESIGN CHOICE, safe: log entry 3. -/
  inputs : List Lines
  /-- How many free values have been drawn. DESIGN CHOICE: log entry 4. -/
  draws : Nat
deriving DecidableEq, Repr

/-- The state after reset of a machine with the parameters `p`: the values of 10_state.md R35, nothing asked of it yet. -/
def State.resetWith (p : Params) : State where
  chipA := { reg := Vector.replicate 16 0 }
  chipB :=
    { reg := Vector.replicate 16 0, ddrB := 0, ddrA := 0, outB := 0, outA := 0, pinB := 0, pinA := 0
      rbB := 0, rbA := 0, ifr := 0, ier := 0, prevCA := false, prevCB := false }
  bank := { romBank := p.romBankInit, ramBank := p.ramBankInit }
  driven :=
    { p0ClkIn := true, p0DataIn := true, p1ClkIn := true, p1DataIn := true
      joyLatch := true, joyClock := true }
  refused := false
  params := p
  reply := .nothing
  pending := []
  inputs := []
  draws := 0

/-- The machine right after reset (70_reset_and_hazards.md R250), with parameters that are open (`Config.params`). -/
def State.reset : State :=
  State.resetWith Config.params

end Sys2Proof.Machine
end

