-- ==== Sys2Proof/Machine/Ops.lean ====
section
/-! DEFINITION. The named operations over the state: one accessor or update per register, the end of an operation, the
refusal of one, the free draws, and taking the host's next call.

The block takes no exception and returns from none (60_exceptions.md R220, R227, R228), so the one shared abnormal
outcome is `State.refuse`. -/

namespace Sys2Proof.Machine

/-- `reg[A][k]` (10_state.md R21). -/
def State.slotA (k : Index) (s : State) : Byte :=
  s.chipA.reg[k]

/-- `reg[B][k]` (10_state.md R22). -/
def State.slotB (k : Index) (s : State) : Byte :=
  s.chipB.reg[k]

/-- `reg[A][k] <- v`. -/
def State.setSlotA (k : Index) (v : Byte) (s : State) : State :=
  { s with chipA := { reg := s.chipA.reg.set k v } }

/-- `reg[B][k] <- v`. -/
def State.setSlotB (k : Index) (v : Byte) (s : State) : State :=
  { s with chipB := { s.chipB with reg := s.chipB.reg.set k v } }

/-- The bank selector's set accessor for the ROM bank (10_state.md R30). -/
def State.setRomBank (v : BitVec 3) (s : State) : State :=
  { s with bank := { s.bank with romBank := v } }

/-- The bank selector's set accessor for the RAM bank (10_state.md R30). -/
def State.setRamBank (v : Byte) (s : State) : State :=
  { s with bank := { s.bank with ramBank := v } }

/-- `ddrB <- v` (10_state.md R23). -/
def State.setDdrB (v : Byte) (s : State) : State :=
  { s with chipB := { s.chipB with ddrB := v } }

/-- `ddrA <- v` (10_state.md R23). -/
def State.setDdrA (v : Byte) (s : State) : State :=
  { s with chipB := { s.chipB with ddrA := v } }

/-- `outB <- v` (10_state.md R24). -/
def State.setOutB (v : Byte) (s : State) : State :=
  { s with chipB := { s.chipB with outB := v } }

/-- `outA <- v` (10_state.md R24). -/
def State.setOutA (v : Byte) (s : State) : State :=
  { s with chipB := { s.chipB with outA := v } }

/-- `IFR <- f` (10_state.md R27). -/
def State.setIfr (f : BitVec 7) (s : State) : State :=
  { s with chipB := { s.chipB with ifr := f } }

/-- `IER <- e` (10_state.md R28). -/
def State.setIer (e : BitVec 7) (s : State) : State :=
  { s with chipB := { s.chipB with ier := e } }

/-- What the host gets back. -/
def State.setReply (r : Reply) (s : State) : State :=
  { s with reply := r }

/-- One free value has been drawn. -/
def State.countDraw (s : State) : State :=
  { s with draws := s.draws + 1 }

/-- The end of an operation that gives nothing back: a write or a step (20_memory.md R63). -/
def done (s : State) : Host.Outcome State Fault Refusal :=
  .next (s.setReply .nothing)

/-- The end of a read: its 8-bit value goes back (20_memory.md R51). -/
def returnByte (v : Byte) (s : State) : Host.Outcome State Fault Refusal :=
  .next (s.setReply (.byte v))

/-- The end of `get_irq_out`: its bit goes back (20_memory.md R51). -/
def returnBit (b : Bool) (s : State) : Host.Outcome State Fault Refusal :=
  .next (s.setReply (.bit b))

/-- A refused operation: the refusal mark is set, no value is returned, and no other state changes (60_exceptions.md
R221). The reason goes back to the host (log entry 6). -/
def State.refuse (r : RefuseReason) (s : State) : State :=
  { s with refused := true, reply := .refused r }

/-- `draw8()` (00_scope.md section 5): a fresh byte under no law. -/
def drawByte (s : State) : Byte × State :=
  (Config.freeByte s.draws, s.countDraw)

/-- `drawbit()` (00_scope.md section 5): a fresh bit under no law. -/
def drawBit (s : State) : Bool × State :=
  (Config.freeBit s.draws, s.countDraw)

/-- The six environment inputs, sampled once by a step (43_step.md R202): the levels given for this tick, or free
ones. -/
def sampleLines (s : State) : Lines × State :=
  match s.inputs with
  | [] => (Config.freeLines s.draws, s.countDraw)
  | l :: rest => (l, { s with inputs := rest })

/-- The host's next operation, and the state in which it is under way; none while the host asks for nothing. -/
def nextCall (s : State) : Option (HostCall × State) :=
  match s.pending with
  | [] => none
  | c :: rest => some (c, { s with pending := rest })

/-- What the block does while the host asks for nothing: nothing (20_memory.md R56, no work between operations). -/
def State.idle (s : State) : State :=
  s

/-- Put an operation before all others the host has not yet issued. -/
def State.issueFirst (c : HostCall) (s : State) : State :=
  { s with pending := c :: s.pending }

/-- A read of a raw slot of chip A (40_register_file.md R165). -/
def readRawA (k : Index) (s : State) : Host.Outcome State Fault Refusal :=
  returnByte (s.slotA k) s

/-- A read of a timer placeholder of chip A: a fresh draw, whatever the slot holds (40_register_file.md R166). -/
def readTimer (s : State) : Host.Outcome State Fault Refusal :=
  returnByte (drawByte s).1 (drawByte s).2

/-- A write of a slot of chip A (40_register_file.md R165). -/
def writeRawA (k : Index) (v : Byte) (s : State) : Host.Outcome State Fault Refusal :=
  done (s.setSlotA k v)

/-- A read of a raw slot of chip B (40_register_file.md R165). -/
def readRawB (k : Index) (s : State) : Host.Outcome State Fault Refusal :=
  returnByte (s.slotB k) s

/-- A write of a slot of chip B (40_register_file.md R165). -/
def writeRawB (k : Index) (v : Byte) (s : State) : Host.Outcome State Fault Refusal :=
  done (s.setSlotB k v)

end Sys2Proof.Machine
end

