-- ==== Sys2Proof/Machine/Flags.lean ====
section
/-! DEFINITION. The interrupt flags, enables and output (InterruptController, 42_interrupt.md). -/

namespace Sys2Proof.Machine

/-- The 7-bit word whose only set bit is k. -/
def flagBit (k : Fin 7) : BitVec 7 :=
  1#7 <<< k.val

/-- `IFR[k] <- 1`. -/
def setFlag (k : Fin 7) (f : BitVec 7) : BitVec 7 :=
  f ||| flagBit k

/-- `IFR[k] <- 0`. -/
def clearFlag (k : Fin 7) (f : BitVec 7) : BitVec 7 :=
  f &&& ~~~flagBit k

/-- Clear the CA-equivalent flag. -/
def State.clearCA (s : State) : State :=
  s.setIfr (clearFlag s.params.caFlagBit s.chipB.ifr)

/-- Clear the CB-equivalent flag. -/
def State.clearCB (s : State) : State :=
  s.setIfr (clearFlag s.params.cbFlagBit s.chipB.ifr)

/-- Clear the flag tied to a port: CA to port A, CB to port B (42_interrupt.md R180). -/
def State.clearPortFlag (p : Port) (s : State) : State :=
  match p with
  | .a => s.clearCA
  | .b => s.clearCB

/-- The other port. -/
def otherPort : Port → Port
  | .a => .b
  | .b => .a

/-- What a write of a port's register does to the flags, by `PORT_WRITE_CLEARS` (40_register_file.md R148, R149). -/
def State.portWriteClear (p : Port) (s : State) : State :=
  match s.params.portWriteClears with
  | .none => s
  | .same => s.clearPortFlag p
  | .cross => s.clearPortFlag (otherPort p)

/-- A falling edge of a monitored line: 1 at the last step, 0 now (43_step.md R205). -/
def fell (prev cur : Bool) : Bool :=
  prev && !cur

/-- The flags after a line's edge detection (43_step.md R205): a falling edge sets flag k, nothing clears one. -/
def detectEdge (k : Fin 7) (prev cur : Bool) (f : BitVec 7) : BitVec 7 :=
  if fell prev cur then setFlag k f else f

/-- A read of IFR: the stored flags, with the summary bit 7 set when any flag is (40_register_file.md R145). -/
def ifrRead (f : BitVec 7) : Byte :=
  f.setWidth 8 ||| ((BitVec.ofBool (f != 0#7)).setWidth 8 <<< 7)

/-- A read of IER with b7 as bit 7 (40_register_file.md R146). -/
def ierRead (e : BitVec 7) (b7 : Bool) : Byte :=
  e.setWidth 8 ||| ((BitVec.ofBool b7).setWidth 8 <<< 7)

/-- Bit 7 of a read of IER, by `IER_READ_BIT7` (40_register_file.md R146). -/
def ierBit7 (s : State) : Bool × State :=
  match s.params.ierReadBit7 with
  | .zero => (false, s)
  | .one => (true, s)
  | .draw => drawBit s

/-- A write of IER (40_register_file.md R162): `v[7]` chooses to set or to clear the enables that `v[6:0]` selects. -/
def ierWrite (e : BitVec 7) (v : Byte) : BitVec 7 :=
  if v.getLsbD 7 then e ||| v.setWidth 7 else e &&& ~~~v.setWidth 7

/-- The interrupt output: `bool(IFR & IER)` (42_interrupt.md R182). -/
def irqOut (f e : BitVec 7) : Bool :=
  (f &&& e) != 0#7

end Sys2Proof.Machine
end

