-- ==== Sys2Proof/Machine/Irq.lean ====
section
/-! DEFINITION. IRQ, the poll of the shared interrupt output (42_interrupt.md R182). -/

namespace Sys2Proof.Machine

/-- `IRQ` (42_interrupt.md R182): returns `bool(IFR & IER)` and changes nothing. -/
def execIrq (s : State) : Host.Outcome State Fault Refusal :=
  returnBit (irqOut s.chipB.ifr s.chipB.ier) s

end Sys2Proof.Machine
end

