-- ==== Sys2Proof/Machine/ReadA.lean ====
section
/-! DEFINITION. The reads of chip A (40_register_file.md R100 to R115). -/

namespace Sys2Proof.Machine

/-- `RDA0` (40_register_file.md R100): returns `zext_8(romBank)`. -/
def execRda0 (s : State) : Host.Outcome State Fault Refusal :=
  returnByte (s.bank.romBank.setWidth 8) s

/-- `RDA1` (40_register_file.md R101): returns `ramBank`. -/
def execRda1 (s : State) : Host.Outcome State Fault Refusal :=
  returnByte s.bank.ramBank s

/-- `RDA2` (40_register_file.md R102): returns `reg[A][2]`. -/
def execRda2 (s : State) : Host.Outcome State Fault Refusal :=
  readRawA 2 s

/-- `RDA3` (40_register_file.md R103): returns `reg[A][3]`. -/
def execRda3 (s : State) : Host.Outcome State Fault Refusal :=
  readRawA 3 s

/-- `RDA4` (40_register_file.md R104): timer placeholder, returns a fresh undetermined byte (log entries 4 and 20). -/
def execRda4 (s : State) : Host.Outcome State Fault Refusal :=
  readTimer s

/-- `RDA5` (40_register_file.md R105): timer placeholder, returns a fresh undetermined byte (log entries 4 and 20). -/
def execRda5 (s : State) : Host.Outcome State Fault Refusal :=
  readTimer s

/-- `RDA6` (40_register_file.md R106): returns `reg[A][6]`. -/
def execRda6 (s : State) : Host.Outcome State Fault Refusal :=
  readRawA 6 s

/-- `RDA7` (40_register_file.md R107): returns `reg[A][7]`. -/
def execRda7 (s : State) : Host.Outcome State Fault Refusal :=
  readRawA 7 s

/-- `RDA8` (40_register_file.md R108): timer placeholder, returns a fresh undetermined byte (log entries 4 and 20). -/
def execRda8 (s : State) : Host.Outcome State Fault Refusal :=
  readTimer s

/-- `RDA9` (40_register_file.md R109): timer placeholder, returns a fresh undetermined byte (log entries 4 and 20). -/
def execRda9 (s : State) : Host.Outcome State Fault Refusal :=
  readTimer s

/-- `RDA10` (40_register_file.md R110): returns `reg[A][10]`. -/
def execRda10 (s : State) : Host.Outcome State Fault Refusal :=
  readRawA 10 s

/-- `RDA11` (40_register_file.md R111): returns `reg[A][11]`. -/
def execRda11 (s : State) : Host.Outcome State Fault Refusal :=
  readRawA 11 s

/-- `RDA12` (40_register_file.md R112): returns `reg[A][12]`. -/
def execRda12 (s : State) : Host.Outcome State Fault Refusal :=
  readRawA 12 s

/-- `RDA13` (40_register_file.md R113): returns `reg[A][13]`. -/
def execRda13 (s : State) : Host.Outcome State Fault Refusal :=
  readRawA 13 s

/-- `RDA14` (40_register_file.md R114): returns `reg[A][14]`. -/
def execRda14 (s : State) : Host.Outcome State Fault Refusal :=
  readRawA 14 s

/-- `RDA15` (40_register_file.md R115): returns `reg[A][15]`. -/
def execRda15 (s : State) : Host.Outcome State Fault Refusal :=
  readRawA 15 s

end Sys2Proof.Machine
end

