-- ==== Sys2Proof/Machine/ReadB.lean ====
section
/-! DEFINITION. The reads of chip B (40_register_file.md R132 to R147). -/

namespace Sys2Proof.Machine

/-- `RDB0` (40_register_file.md R132): returns `rbB` and clears the CB-equivalent flag. -/
def execRdb0 (s : State) : Host.Outcome State Fault Refusal :=
  returnByte s.chipB.rbB (s.clearPortFlag .b)

/-- `RDB1` (40_register_file.md R133): returns `rbA` and clears the CA-equivalent flag. -/
def execRdb1 (s : State) : Host.Outcome State Fault Refusal :=
  returnByte s.chipB.rbA (s.clearPortFlag .a)

/-- `RDB2` (40_register_file.md R134): returns `ddrB`. -/
def execRdb2 (s : State) : Host.Outcome State Fault Refusal :=
  returnByte s.chipB.ddrB s

/-- `RDB3` (40_register_file.md R135): returns `ddrA`. -/
def execRdb3 (s : State) : Host.Outcome State Fault Refusal :=
  returnByte s.chipB.ddrA s

/-- `RDB4` (40_register_file.md R136): returns `reg[B][4]`. -/
def execRdb4 (s : State) : Host.Outcome State Fault Refusal :=
  readRawB 4 s

/-- `RDB5` (40_register_file.md R137): returns `reg[B][5]`. -/
def execRdb5 (s : State) : Host.Outcome State Fault Refusal :=
  readRawB 5 s

/-- `RDB6` (40_register_file.md R138): returns `reg[B][6]`. -/
def execRdb6 (s : State) : Host.Outcome State Fault Refusal :=
  readRawB 6 s

/-- `RDB7` (40_register_file.md R139): returns `reg[B][7]`. -/
def execRdb7 (s : State) : Host.Outcome State Fault Refusal :=
  readRawB 7 s

/-- `RDB8` (40_register_file.md R140): returns `reg[B][8]`. -/
def execRdb8 (s : State) : Host.Outcome State Fault Refusal :=
  readRawB 8 s

/-- `RDB9` (40_register_file.md R141): returns `reg[B][9]`. -/
def execRdb9 (s : State) : Host.Outcome State Fault Refusal :=
  readRawB 9 s

/-- `RDB10` (40_register_file.md R142): returns `reg[B][10]`. -/
def execRdb10 (s : State) : Host.Outcome State Fault Refusal :=
  readRawB 10 s

/-- `RDB11` (40_register_file.md R143): returns `reg[B][11]`. -/
def execRdb11 (s : State) : Host.Outcome State Fault Refusal :=
  readRawB 11 s

/-- `RDB12` (40_register_file.md R144): returns `reg[B][12]`. -/
def execRdb12 (s : State) : Host.Outcome State Fault Refusal :=
  readRawB 12 s

/-- `RDB13` (40_register_file.md R145): returns the flags with the summary bit 7 and clears nothing. -/
def execRdb13 (s : State) : Host.Outcome State Fault Refusal :=
  returnByte (ifrRead s.chipB.ifr) s

/-- `RDB14` (40_register_file.md R146): returns the enables, bit 7 by `IER_READ_BIT7` (log entry 17). -/
def execRdb14 (s : State) : Host.Outcome State Fault Refusal :=
  returnByte (ierRead s.chipB.ier (ierBit7 s).1) (ierBit7 s).2

/-- `RDB15` (40_register_file.md R147): returns `reg[B][15]`. -/
def execRdb15 (s : State) : Host.Outcome State Fault Refusal :=
  readRawB 15 s

end Sys2Proof.Machine
end

