-- ==== Sys2Proof/Machine/Operands.lean ====
section
/-! DEFINITION. The values that reach the two ports of chip B: the pin map's roles, the in-vectors of a step, and the
open-collector resolution (PinStateComputer, 41_pin_state.md). -/

namespace Sys2Proof.Machine

/-- `PIN_MAP(p, b)`: the role at a position (43_step.md R201). -/
def roleAt (m : PinMap) (p : Pos) : Role :=
  if p = m.p0Clk then .p0Clk
  else if p = m.p0Data then .p0Data
  else if p = m.p1Clk then .p1Clk
  else if p = m.p1Data then .p1Data
  else if p = m.joyData1 then .joyData1
  else if p = m.joyData2 then .joyData2
  else if p = m.joyLatch then .joyLatch
  else if p = m.joyClk then .joyClk
  else .high

/-- The external level at a position of the given role: a sampled input, or 1 where nothing outside drives the line
(43_step.md R200 part 1, R203). -/
def roleLevel (l : Lines) : Role → Bool
  | .p0Clk => l.p0ClkOut
  | .p0Data => l.p0DataOut
  | .p1Clk => l.p1ClkOut
  | .p1Data => l.p1DataOut
  | .joyData1 => l.joyData1
  | .joyData2 => l.joyData2
  | .joyLatch => true
  | .joyClk => true
  | .high => true

/-- The in-vector of a port (43_step.md R203): bit b is the external level at position b. -/
def inVector (m : PinMap) (l : Lines) (p : Port) : Byte :=
  BitVec.ofFnLE fun b : Fin 8 => roleLevel l (roleAt m ⟨p, b⟩)

/-- The three results of `Resolve`. -/
structure Resolved where
  driving : Byte
  pinstate : Byte
  readback : Byte
deriving DecidableEq, Repr

/-- `Resolve(in, out, ddr)` (41_pin_state.md R170). -/
def resolve (inp out ddr : Byte) : Resolved :=
  let driving := (ddr &&& out) ||| ~~~ddr
  let pinstate := ~~~(~~~inp ||| ~~~driving)
  { driving := driving
    pinstate := pinstate
    readback := (ddr &&& driving) ||| (~~~ddr &&& pinstate) }

/-- `pin[portOf(r)][bitOf(r)]`: the level of the line at a position, from the two ports' pin states (43_step.md R204). -/
def levelAt (pinA pinB : Byte) (p : Pos) : Bool :=
  match p.port with
  | .a => pinA.getLsbD p.bit
  | .b => pinB.getLsbD p.bit

/-- The six output lines from the two ports' pin states (43_step.md R200 part 3). -/
def drivenLines (m : PinMap) (pinA pinB : Byte) : Driven where
  p0ClkIn := levelAt pinA pinB m.p0Clk
  p0DataIn := levelAt pinA pinB m.p0Data
  p1ClkIn := levelAt pinA pinB m.p1Clk
  p1DataIn := levelAt pinA pinB m.p1Data
  joyLatch := levelAt pinA pinB m.joyLatch
  joyClock := levelAt pinA pinB m.joyClk

end Sys2Proof.Machine
end

