-- ==== Sys2Proof/Machine/Tick.lean ====
section
/-! DEFINITION. STEP, one tick of chip B (43_step.md R200 to R210). -/

namespace Sys2Proof.Machine

/-- The tick with the given input levels: resolve both ports from the in-vectors, drive the six output lines, then
detect falling edges of the two monitored lines on their resolved levels (43_step.md R200, R206, R210). -/
def tick (l : Lines) (s : State) : State :=
  let b := s.chipB
  let p := s.params
  let ra := resolve (inVector p.pinMap l .a) b.outA b.ddrA
  let rb := resolve (inVector p.pinMap l .b) b.outB b.ddrB
  let curCA := ra.pinstate.getLsbD p.caMonBit
  let curCB := rb.pinstate.getLsbD p.cbMonBit
  { s with
    chipB :=
      { b with
        pinA := ra.pinstate
        rbA := ra.readback
        pinB := rb.pinstate
        rbB := rb.readback
        ifr := detectEdge p.cbFlagBit b.prevCB curCB (detectEdge p.caFlagBit b.prevCA curCA b.ifr)
        prevCA := curCA
        prevCB := curCB }
    driven := drivenLines p.pinMap ra.pinstate rb.pinstate }

/-- `STEP` (43_step.md R200): sample the six inputs once, then tick. -/
def execStep (s : State) : Host.Outcome State Fault Refusal :=
  done (tick (sampleLines s).1 (sampleLines s).2)

end Sys2Proof.Machine
end

