-- ==== Sys2Proof/Machine/WriteA.lean ====
section
/-! DEFINITION. The writes of chip A (40_register_file.md R116 to R131). -/

namespace Sys2Proof.Machine

/-- `WRA0` (40_register_file.md R116): `romBank <- v[2:0]`. -/
def execWra0 (v : Byte) (s : State) : Host.Outcome State Fault Refusal :=
  done (s.setRomBank (v.extractLsb' 0 3))

/-- `WRA1` (40_register_file.md R117): `ramBank <- v`. -/
def execWra1 (v : Byte) (s : State) : Host.Outcome State Fault Refusal :=
  done (s.setRamBank v)

/-- `WRA2` (40_register_file.md R118): `reg[A][2] <- v`. -/
def execWra2 (v : Byte) (s : State) : Host.Outcome State Fault Refusal :=
  writeRawA 2 v s

/-- `WRA3` (40_register_file.md R119): `reg[A][3] <- v`. -/
def execWra3 (v : Byte) (s : State) : Host.Outcome State Fault Refusal :=
  writeRawA 3 v s

/-- `WRA4` (40_register_file.md R120): `reg[A][4] <- v`, which no read returns. -/
def execWra4 (v : Byte) (s : State) : Host.Outcome State Fault Refusal :=
  writeRawA 4 v s

/-- `WRA5` (40_register_file.md R121): `reg[A][5] <- v`, which no read returns. -/
def execWra5 (v : Byte) (s : State) : Host.Outcome State Fault Refusal :=
  writeRawA 5 v s

/-- `WRA6` (40_register_file.md R122): `reg[A][6] <- v`. -/
def execWra6 (v : Byte) (s : State) : Host.Outcome State Fault Refusal :=
  writeRawA 6 v s

/-- `WRA7` (40_register_file.md R123): `reg[A][7] <- v`. -/
def execWra7 (v : Byte) (s : State) : Host.Outcome State Fault Refusal :=
  writeRawA 7 v s

/-- `WRA8` (40_register_file.md R124): `reg[A][8] <- v`, which no read returns. -/
def execWra8 (v : Byte) (s : State) : Host.Outcome State Fault Refusal :=
  writeRawA 8 v s

/-- `WRA9` (40_register_file.md R125): `reg[A][9] <- v`, which no read returns. -/
def execWra9 (v : Byte) (s : State) : Host.Outcome State Fault Refusal :=
  writeRawA 9 v s

/-- `WRA10` (40_register_file.md R126): `reg[A][10] <- v`. -/
def execWra10 (v : Byte) (s : State) : Host.Outcome State Fault Refusal :=
  writeRawA 10 v s

/-- `WRA11` (40_register_file.md R127): `reg[A][11] <- v`. -/
def execWra11 (v : Byte) (s : State) : Host.Outcome State Fault Refusal :=
  writeRawA 11 v s

/-- `WRA12` (40_register_file.md R128): `reg[A][12] <- v`. -/
def execWra12 (v : Byte) (s : State) : Host.Outcome State Fault Refusal :=
  writeRawA 12 v s

/-- `WRA13` (40_register_file.md R129): `reg[A][13] <- v`. -/
def execWra13 (v : Byte) (s : State) : Host.Outcome State Fault Refusal :=
  writeRawA 13 v s

/-- `WRA14` (40_register_file.md R130): `reg[A][14] <- v`. -/
def execWra14 (v : Byte) (s : State) : Host.Outcome State Fault Refusal :=
  writeRawA 14 v s

/-- `WRA15` (40_register_file.md R131): `reg[A][15] <- v`. -/
def execWra15 (v : Byte) (s : State) : Host.Outcome State Fault Refusal :=
  writeRawA 15 v s

end Sys2Proof.Machine
end

