-- ==== Sys2Proof/Machine/WriteB.lean ====
section
/-! DEFINITION. The writes of chip B (40_register_file.md R148 to R163). -/

namespace Sys2Proof.Machine

/-- `WRB0` (40_register_file.md R148): `outB <- v`, and what `PORT_WRITE_CLEARS` says of the flags. -/
def execWrb0 (v : Byte) (s : State) : Host.Outcome State Fault Refusal :=
  done ((s.setOutB v).portWriteClear .b)

/-- `WRB1` (40_register_file.md R149): `outA <- v`, and what `PORT_WRITE_CLEARS` says of the flags. -/
def execWrb1 (v : Byte) (s : State) : Host.Outcome State Fault Refusal :=
  done ((s.setOutA v).portWriteClear .a)

/-- `WRB2` (40_register_file.md R150): `ddrB <- v`. -/
def execWrb2 (v : Byte) (s : State) : Host.Outcome State Fault Refusal :=
  done (s.setDdrB v)

/-- `WRB3` (40_register_file.md R151): `ddrA <- v`. -/
def execWrb3 (v : Byte) (s : State) : Host.Outcome State Fault Refusal :=
  done (s.setDdrA v)

/-- `WRB4` (40_register_file.md R152): `reg[B][4] <- v`. -/
def execWrb4 (v : Byte) (s : State) : Host.Outcome State Fault Refusal :=
  writeRawB 4 v s

/-- `WRB5` (40_register_file.md R153): `reg[B][5] <- v`. -/
def execWrb5 (v : Byte) (s : State) : Host.Outcome State Fault Refusal :=
  writeRawB 5 v s

/-- `WRB6` (40_register_file.md R154): `reg[B][6] <- v`. -/
def execWrb6 (v : Byte) (s : State) : Host.Outcome State Fault Refusal :=
  writeRawB 6 v s

/-- `WRB7` (40_register_file.md R155): `reg[B][7] <- v`. -/
def execWrb7 (v : Byte) (s : State) : Host.Outcome State Fault Refusal :=
  writeRawB 7 v s

/-- `WRB8` (40_register_file.md R156): `reg[B][8] <- v`. -/
def execWrb8 (v : Byte) (s : State) : Host.Outcome State Fault Refusal :=
  writeRawB 8 v s

/-- `WRB9` (40_register_file.md R157): `reg[B][9] <- v`. -/
def execWrb9 (v : Byte) (s : State) : Host.Outcome State Fault Refusal :=
  writeRawB 9 v s

/-- `WRB10` (40_register_file.md R158): `reg[B][10] <- v`. -/
def execWrb10 (v : Byte) (s : State) : Host.Outcome State Fault Refusal :=
  writeRawB 10 v s

/-- `WRB11` (40_register_file.md R159): `reg[B][11] <- v`. -/
def execWrb11 (v : Byte) (s : State) : Host.Outcome State Fault Refusal :=
  writeRawB 11 v s

/-- `WRB12` (40_register_file.md R160): `reg[B][12] <- v`. -/
def execWrb12 (v : Byte) (s : State) : Host.Outcome State Fault Refusal :=
  writeRawB 12 v s

/-- `WRB13` (40_register_file.md R161): the write is ignored. -/
def execWrb13 (_v : Byte) (s : State) : Host.Outcome State Fault Refusal :=
  done s

/-- `WRB14` (40_register_file.md R162): sets or clears the enables that `v[6:0]` selects, by `v[7]`. -/
def execWrb14 (v : Byte) (s : State) : Host.Outcome State Fault Refusal :=
  done (s.setIer (ierWrite s.chipB.ier v))

/-- `WRB15` (40_register_file.md R163): `reg[B][15] <- v`. -/
def execWrb15 (v : Byte) (s : State) : Host.Outcome State Fault Refusal :=
  writeRawB 15 v s

end Sys2Proof.Machine
end

