-- ==== Sys2Proof/Machine/Dispatch.lean ====
section
/-! DEFINITION. One arm per constructor of `Instr`, each one call of the instruction's meaning. -/

namespace Sys2Proof.Machine

def exec (i : Instr) (s : State) : Host.Outcome State Fault Refusal :=
  match i with
  | .rda0 => Sys2Proof.Machine.execRda0 s
  | .rda1 => Sys2Proof.Machine.execRda1 s
  | .rda2 => Sys2Proof.Machine.execRda2 s
  | .rda3 => Sys2Proof.Machine.execRda3 s
  | .rda4 => Sys2Proof.Machine.execRda4 s
  | .rda5 => Sys2Proof.Machine.execRda5 s
  | .rda6 => Sys2Proof.Machine.execRda6 s
  | .rda7 => Sys2Proof.Machine.execRda7 s
  | .rda8 => Sys2Proof.Machine.execRda8 s
  | .rda9 => Sys2Proof.Machine.execRda9 s
  | .rda10 => Sys2Proof.Machine.execRda10 s
  | .rda11 => Sys2Proof.Machine.execRda11 s
  | .rda12 => Sys2Proof.Machine.execRda12 s
  | .rda13 => Sys2Proof.Machine.execRda13 s
  | .rda14 => Sys2Proof.Machine.execRda14 s
  | .rda15 => Sys2Proof.Machine.execRda15 s
  | .wra0 v => Sys2Proof.Machine.execWra0 v s
  | .wra1 v => Sys2Proof.Machine.execWra1 v s
  | .wra2 v => Sys2Proof.Machine.execWra2 v s
  | .wra3 v => Sys2Proof.Machine.execWra3 v s
  | .wra4 v => Sys2Proof.Machine.execWra4 v s
  | .wra5 v => Sys2Proof.Machine.execWra5 v s
  | .wra6 v => Sys2Proof.Machine.execWra6 v s
  | .wra7 v => Sys2Proof.Machine.execWra7 v s
  | .wra8 v => Sys2Proof.Machine.execWra8 v s
  | .wra9 v => Sys2Proof.Machine.execWra9 v s
  | .wra10 v => Sys2Proof.Machine.execWra10 v s
  | .wra11 v => Sys2Proof.Machine.execWra11 v s
  | .wra12 v => Sys2Proof.Machine.execWra12 v s
  | .wra13 v => Sys2Proof.Machine.execWra13 v s
  | .wra14 v => Sys2Proof.Machine.execWra14 v s
  | .wra15 v => Sys2Proof.Machine.execWra15 v s
  | .rdb0 => Sys2Proof.Machine.execRdb0 s
  | .rdb1 => Sys2Proof.Machine.execRdb1 s
  | .rdb2 => Sys2Proof.Machine.execRdb2 s
  | .rdb3 => Sys2Proof.Machine.execRdb3 s
  | .rdb4 => Sys2Proof.Machine.execRdb4 s
  | .rdb5 => Sys2Proof.Machine.execRdb5 s
  | .rdb6 => Sys2Proof.Machine.execRdb6 s
  | .rdb7 => Sys2Proof.Machine.execRdb7 s
  | .rdb8 => Sys2Proof.Machine.execRdb8 s
  | .rdb9 => Sys2Proof.Machine.execRdb9 s
  | .rdb10 => Sys2Proof.Machine.execRdb10 s
  | .rdb11 => Sys2Proof.Machine.execRdb11 s
  | .rdb12 => Sys2Proof.Machine.execRdb12 s
  | .rdb13 => Sys2Proof.Machine.execRdb13 s
  | .rdb14 => Sys2Proof.Machine.execRdb14 s
  | .rdb15 => Sys2Proof.Machine.execRdb15 s
  | .wrb0 v => Sys2Proof.Machine.execWrb0 v s
  | .wrb1 v => Sys2Proof.Machine.execWrb1 v s
  | .wrb2 v => Sys2Proof.Machine.execWrb2 v s
  | .wrb3 v => Sys2Proof.Machine.execWrb3 v s
  | .wrb4 v => Sys2Proof.Machine.execWrb4 v s
  | .wrb5 v => Sys2Proof.Machine.execWrb5 v s
  | .wrb6 v => Sys2Proof.Machine.execWrb6 v s
  | .wrb7 v => Sys2Proof.Machine.execWrb7 v s
  | .wrb8 v => Sys2Proof.Machine.execWrb8 v s
  | .wrb9 v => Sys2Proof.Machine.execWrb9 v s
  | .wrb10 v => Sys2Proof.Machine.execWrb10 v s
  | .wrb11 v => Sys2Proof.Machine.execWrb11 v s
  | .wrb12 v => Sys2Proof.Machine.execWrb12 v s
  | .wrb13 v => Sys2Proof.Machine.execWrb13 v s
  | .wrb14 v => Sys2Proof.Machine.execWrb14 v s
  | .wrb15 v => Sys2Proof.Machine.execWrb15 v s
  | .step => Sys2Proof.Machine.execStep s
  | .irq => Sys2Proof.Machine.execIrq s

end Sys2Proof.Machine
end

