-- ==== Sys2Proof/Machine/Step.lean ====
section
/-! DEFINITION. One step of the machine: the host's next operation, run to completion (20_memory.md R55, R56). -/

namespace Sys2Proof.Machine

/-- One step: the host's next call is issued; a call the spec refuses sets the refusal mark (60_exceptions.md R221), any
other runs its instruction. While the host asks for nothing the block does nothing: it performs no work between
operations (20_memory.md R56; log entry 1). -/
def step (s : State) : Host.Outcome State Fault Refusal :=
  match nextCall s with
  | none => .next s.idle
  | some (c, s') =>
    match callInstr c with
    | .error r => .next (s'.refuse r)
    | .ok i => exec i s'

/-- The state in which the host's very next operation is the word that spec/opcode_table.json numbers as w: it stands
before all other pending ones (log entry 1). -/
def State.withFetchWord (s : State) (nbits w : Nat) : State :=
  s.issueFirst (.word (tableWord nbits w))

end Sys2Proof.Machine
end

