-- ==== Sys2Proof/Safety.lean ====
section
/-! DEFINITION. The terms claims are made in: the spec's own part of the state, the legal flags, the host's duty, which
chip an instruction is on, the bits at a line position, and the slots no operation observes. -/

namespace Sys2Proof

/-- A read or write of the given chip. -/
def Instr.onChip (c : Chip) (i : Instr) : Bool :=
  match i.fields.op with
  | .read => i.fields.chip == c
  | .write => i.fields.chip == c
  | .step => false
  | .irq => false

end Sys2Proof

namespace Sys2Proof.Machine

/-- The state `S` of the spec (10_state.md R20), without the parameters and the host's side of the interface. -/
structure Block where
  chipA : ChipA
  chipB : ChipB
  bank : Bank
  driven : Driven
  refused : Bool
deriving DecidableEq, Repr

/-- The spec's part of a state. -/
def State.block (s : State) : Block :=
  { chipA := s.chipA, chipB := s.chipB, bank := s.bank, driven := s.driven, refused := s.refused }

/-- Only the two flag bits can be set in IFR; the other five hold 0 (10_state.md R27). -/
abbrev State.FlagsLegal (s : State) : Prop :=
  ∀ k : Fin 7, s.chipB.ifr.getLsbD k.val = true → k = s.params.caFlagBit ∨ k = s.params.cbFlagBit

/-- What every state of a run meets: parameters that 00_scope.md R10 admits, and legal flags. -/
abbrev State.Inv (s : State) : Prop :=
  s.params.wellFormed = true ∧ s.FlagsLegal

/-- The host keeps its duty (20_memory.md R63): each of its pending calls has an index in 0..15, or is a word whose
must-be-zero fields are zero. -/
def State.hostKeepsDuty (s : State) : Bool :=
  s.pending.all HostCall.wellFormed

/-- The slots of chip A that no operation observes (10_state.md R21). -/
def hiddenSlotsA : List Index :=
  [0, 1, 4, 5, 8, 9]

/-- The slots of chip B that no operation observes (10_state.md R22). -/
def hiddenSlotsB : List Index :=
  [0, 1, 2, 3, 13, 14]

/-- Two states that differ at most in slots no operation observes. -/
def State.SameButHiddenSlots (s t : State) : Prop :=
  (∀ k : Index, k ∉ hiddenSlotsA → t.chipA.reg[k] = s.chipA.reg[k]) ∧
  (∀ k : Index, k ∉ hiddenSlotsB → t.chipB.reg[k] = s.chipB.reg[k]) ∧
  t = { s with chipA := t.chipA, chipB := { s.chipB with reg := t.chipB.reg } }

/-- The bit of the two ports' bytes at a position. -/
def bitAt (portA portB : Byte) (p : Pos) : Bool :=
  match p.port with
  | .a => portA.getLsbD p.bit.val
  | .b => portB.getLsbD p.bit.val

/-- The line at a position is an output (10_state.md R23). -/
def State.outputAt (s : State) (p : Pos) : Bool :=
  bitAt s.chipB.ddrA s.chipB.ddrB p

/-- The output latch's bit at a position (10_state.md R24). -/
def State.latchAt (s : State) (p : Pos) : Bool :=
  bitAt s.chipB.outA s.chipB.outB p

/-- The resolved level of the line at a position (10_state.md R25). -/
def State.pinAt (s : State) (p : Pos) : Bool :=
  bitAt s.chipB.pinA s.chipB.pinB p

/-- The readback of the line at a position (10_state.md R26). -/
def State.readbackAt (s : State) (p : Pos) : Bool :=
  bitAt s.chipB.rbA s.chipB.rbB p

/-- The chip leaves the line at a position passive: it does not pull it low (41_pin_state.md R171). -/
def State.passiveAt (s : State) (p : Pos) : Bool :=
  !(s.outputAt p && !s.latchAt p)

/-- The input levels the next tick samples: the first of those given, or free ones. -/
def State.nextLines (s : State) : Lines :=
  s.inputs.headD (Config.freeLines s.draws)

end Sys2Proof.Machine
end

