-- ==== Sys2Proof/Certificates/Slice0/Obligations.lean ====
section
/-! DEFINITION. What is claimed of the block, for the provers. Each statement says which rule of the spec it formalises; a
statement that rests on a choice of the model, or on one the spec marks as derived or decided, says so. -/

open Sys2Proof Sys2Proof.Machine

/-! ### Encoding -/

/-- Decoding an instruction's own word gives the instruction back, with every data byte (30_encoding.md sections 1 and 3,
the spec's own encoding D1, log entry 21). -/
def Obligations.DecodeOfEncodeIsTheInstruction : Prop :=
  ∀ i : Instr, i.wellFormed = true → decode (encode i) = .ok i

/-- A word that decodes is the word of the instruction it decodes to: each instruction has one word for each data byte,
and no bit of a word is ignored (30_encoding.md sections 1 and 3, D1, log entry 21). -/
def Obligations.DecodedWordIsTheEncoding : Prop :=
  ∀ (w : OpWord) (i : Instr), decode w = .ok i → w = encode i ∧ i.wellFormed = true

/-- Which words are refused and for which reason, the reserved bit before the other fields (30_encoding.md sections 3
and 4, 60_exceptions.md section 1, D1, log entry 21). -/
def Obligations.RefusedWordsAndTheirReasons : Prop :=
  ∀ w : OpWord,
    (decode w = .error .reservedBit ↔ w.getLsbD 13 = true) ∧
    (decode w = .error .nonZeroField ↔
      w.getLsbD 13 = false ∧
        ((w.extractLsb' 14 2 = 0b00#2 ∧ w.extractLsb' 0 8 ≠ 0) ∨
         (w.getLsbD 15 = true ∧ w.extractLsb' 0 13 ≠ 0))) ∧
    decode w ≠ .error .indexOutOfRange

/-- Words written out by hand from the spec's formats and from its vectors (30_encoding.md section 1, 95_test_vectors.md
L2.6; D1, log entry 21). -/
def Obligations.HandWrittenWordsDecode : Prop :=
  decode 0x0F00#16 = .ok .rda15 ∧ decode 0x1D00#16 = .ok .rdb13 ∧ decode 0x40FD#16 = .ok (.wra0 0xFD) ∧
  decode 0x5E82#16 = .ok (.wrb14 0x82) ∧ decode 0x8000#16 = .ok .step ∧ decode 0xC000#16 = .ok .irq ∧
  decode 0x0001#16 = .error .nonZeroField ∧ decode 0x6E82#16 = .error .reservedBit ∧
  decode 0xC0FF#16 = .error .nonZeroField ∧ decode 0xFFFF#16 = .error .reservedBit

/-- A `read` or `write` call is the instruction of its chip and index, and is refused when the index is above 15
(20_memory.md section 2, 60_exceptions.md section 1, D19; the unmasked call is the model's choice, log entry 7). -/
def Obligations.CallsByIndex : Prop :=
  ∀ (c : Chip) (n : Nat) (v : Byte),
    (16 ≤ n → callInstr (.read c n) = .error .indexOutOfRange ∧ callInstr (.write c n v) = .error .indexOutOfRange) ∧
    (∀ h : n < 16,
      (∃ i, callInstr (.read c n) = .ok i ∧ i.fields = ⟨.read, c, ⟨n, h⟩, 0⟩) ∧
      (∃ i, callInstr (.write c n v) = .ok i ∧ i.fields = ⟨.write, c, ⟨n, h⟩, v⟩))

/-! ### The step -/

/-- When the host's next call asks for instruction i, a step is exec of i with that call taken from the pending ones
(20_memory.md section 4; the list of pending calls is the model's choice, log entry 1). -/
def Obligations.StepRunsTheHostsNextInstruction : Prop :=
  ∀ (s : State) (c : HostCall) (rest : List HostCall) (i : Instr),
    s.pending = c :: rest → callInstr c = .ok i → step s = exec i { s with pending := rest }

/-- A word placed by `withFetchWord` is what the next step runs, on the state it was placed in (the model's choice, log
entry 1). -/
def Obligations.PlacedWordRunsNext : Prop :=
  ∀ (s : State) (w : Nat) (i : Instr),
    w < 65536 → decode (BitVec.ofNat 16 w) = .ok i → step (s.withFetchWord 16 w) = exec i s

/-- While the host asks for nothing, the block does nothing (20_memory.md section 4; the idle step is the model's choice,
log entry 1). -/
def Obligations.IdleBlockDoesNothing : Prop :=
  ∀ s : State, s.pending = [] → step s = .next s

/-- A refused operation sets the refusal mark, returns no value, and changes nothing else of the state (60_exceptions.md
section 1, the spec's own choice D19; the reason in the reply is the model's, log entry 6). -/
def Obligations.RefusedCallOnlySetsTheMark : Prop :=
  ∀ (s : State) (c : HostCall) (rest : List HostCall) (r : RefuseReason),
    s.pending = c :: rest → callInstr c = .error r →
      step s = .next { s with pending := rest, refused := true, reply := .refused r }

/-- No operation clears the refusal mark, and none of the 66 instructions sets it (60_exceptions.md section 1, D19, log
entry 6). -/
def Obligations.OnlyRefusalsTouchTheMark : Prop :=
  (∀ s t : State, step s = .next t → s.refused = true → t.refused = true) ∧
  (∀ (i : Instr) (s t : State), exec i s = .next t → t.refused = s.refused)

/-- No operation is fallible: every instruction answers a next state in every state (R220), and so does every step. That a
refused operation is a next state is R221 with the spec's own choice D19 (log entry 6), and the idle step is the model's
choice (log entry 1). -/
def Obligations.NoOperationIsFallible : Prop :=
  (∀ (i : Instr) (s : State), ∃ t, exec i s = .next t) ∧ (∀ s : State, ∃ t, step s = .next t)

/-- What each operation gives back: a read an 8-bit value, a write and a step nothing, `get_irq_out` one bit (20_memory.md
sections 2 and 5; the reply is the model's field, log entry 2). -/
def Obligations.RepliesByOperation : Prop :=
  ∀ (i : Instr) (s : State), ∃ t, exec i s = .next t ∧
    match i.fields.op with
    | .read => ∃ v, t.reply = .byte v
    | .write => t.reply = .nothing
    | .step => t.reply = .nothing
    | .irq => ∃ b, t.reply = .bit b

/-! ### Chip A -/

/-- R100, R101: `RDA0` returns the ROM bank zero-extended to 8 bits, `RDA1` the RAM bank, and nothing else changes. -/
def Obligations.BankReadsReturnTheSelector : Prop :=
  ∀ s : State,
    (∃ v : Byte, exec .rda0 s = .next { s with reply := .byte v } ∧
      v.toNat = s.bank.romBank.toNat ∧ ∀ j : Nat, 3 ≤ j → v.getLsbD j = false) ∧
    exec .rda1 s = .next { s with reply := .byte s.bank.ramBank }

/-- `WRA0` sets the ROM bank to the low 3 bits of the byte (R116), and nothing else changes: slot 0 of chip A, of which the
spec says only that whether it is written is unobservable (D13), keeps its value by the model's choice (log entry 11). -/
def Obligations.RomBankWriteKeepsThreeBits : Prop :=
  ∀ (v : Byte) (s : State), ∃ t, exec (.wra0 v) s = .next t ∧
    t.bank.romBank.toNat = v.toNat % 8 ∧
    t = { s with bank := { s.bank with romBank := t.bank.romBank }, reply := .nothing }

/-- `WRA1` sets the RAM bank to the whole byte (R117), and nothing else changes: slot 1 of chip A, of which the spec says
only that whether it is written is unobservable (D13), keeps its value by the model's choice (log entry 11). -/
def Obligations.RamBankWriteKeepsTheByte : Prop :=
  ∀ (v : Byte) (s : State),
    exec (.wra1 v) s = .next { s with bank := { s.bank with ramBank := v }, reply := .nothing }

/-- R102, R103, R106, R107, R110 to R115: `RDA2`, `RDA3`, `RDA6`, `RDA7`, `RDA10` to `RDA15` return their slot, and nothing
else changes. -/
def Obligations.RawReadsOfChipAReturnTheSlot : Prop :=
  ∀ (i : Instr) (k : Index), (i, k) ∈ ([
      (.rda2, 2), (.rda3, 3), (.rda6, 6), (.rda7, 7), (.rda10, 10),
      (.rda11, 11), (.rda12, 12), (.rda13, 13), (.rda14, 14), (.rda15, 15)] : List (Instr × Index)) →
    ∀ s : State, exec i s = .next { s with reply := .byte s.chipA.reg[k] }

/-- R118, R119, R122, R123, R126 to R131: `WRA2`, `WRA3`, `WRA6`, `WRA7`, `WRA10` to `WRA15` store the byte in their slot;
every other slot and everything else is unchanged. -/
def Obligations.RawWritesOfChipAStoreTheByte : Prop :=
  ∀ (f : Byte → Instr) (k : Index), (f, k) ∈ ([
      (.wra2, 2), (.wra3, 3), (.wra6, 6), (.wra7, 7), (.wra10, 10),
      (.wra11, 11), (.wra12, 12), (.wra13, 13), (.wra14, 14), (.wra15, 15)] : List ((Byte → Instr) × Index)) →
    ∀ (v : Byte) (s : State), ∃ t, exec (f v) s = .next t ∧
      t.chipA.reg[k] = v ∧ (∀ j : Index, j ≠ k → t.chipA.reg[j] = s.chipA.reg[j]) ∧
      t = { s with chipA := t.chipA, reply := .nothing }

/-- `RDA4`, `RDA5`, `RDA8`, `RDA9` return the next free byte, whatever was last written, and change nothing of the block
(40_register_file.md section 1, D15; the free byte is log entry 4). It holds whatever the free values are. -/
def Obligations.TimerReadsReturnFreeBytes : Prop :=
  ∀ i ∈ [Instr.rda4, .rda5, .rda8, .rda9], ∀ s : State,
    exec i s = .next { s with reply := .byte (Config.freeByte s.draws), draws := s.draws + 1 } ∧
    ∀ f ∈ [Instr.wra4, .wra5, .wra8, .wra9], ∀ v : Byte, ∃ t u, exec (f v) s = .next t ∧ exec i t = .next u ∧
      u.reply = .byte (Config.freeByte s.draws)

/-- `WRA4`, `WRA5`, `WRA8`, `WRA9` store the byte in their slot and do nothing else: no timer starts and no flag changes
(40_register_file.md section 3, D15, log entry 20; that no read returns it is HiddenSlotsAreNeverObserved). -/
def Obligations.TimerWritesOnlyStoreTheByte : Prop :=
  ∀ (f : Byte → Instr) (k : Index), (f, k) ∈ ([
      (.wra4, 4), (.wra5, 5), (.wra8, 8), (.wra9, 9)] : List ((Byte → Instr) × Index)) →
    ∀ (v : Byte) (s : State), ∃ t, exec (f v) s = .next t ∧
      t.chipA.reg[k] = v ∧ (∀ j : Index, j ≠ k → t.chipA.reg[j] = s.chipA.reg[j]) ∧
      t = { s with chipA := t.chipA, reply := .nothing }

/-! ### Chip B: reads -/

/-- R132, R133: `RDB0` returns port B's readback and clears the CB-equivalent flag, `RDB1` returns port A's and clears the
CA-equivalent flag; every other flag and everything else is unchanged. -/
def Obligations.PortReadsClearTheirOwnFlag : Prop :=
  ∀ s : State,
    (∃ t, exec .rdb0 s = .next t ∧
      (∀ k : Fin 7, t.chipB.ifr.getLsbD k.val = (s.chipB.ifr.getLsbD k.val && decide (k ≠ s.params.cbFlagBit))) ∧
      t = { s with chipB := { s.chipB with ifr := t.chipB.ifr }, reply := .byte s.chipB.rbB }) ∧
    (∃ t, exec .rdb1 s = .next t ∧
      (∀ k : Fin 7, t.chipB.ifr.getLsbD k.val = (s.chipB.ifr.getLsbD k.val && decide (k ≠ s.params.caFlagBit))) ∧
      t = { s with chipB := { s.chipB with ifr := t.chipB.ifr }, reply := .byte s.chipB.rbA })

/-- R134, R135: `RDB2` and `RDB3` return the direction registers, and nothing else changes. -/
def Obligations.DirectionReadsReturnTheRegister : Prop :=
  ∀ s : State,
    exec .rdb2 s = .next { s with reply := .byte s.chipB.ddrB } ∧
    exec .rdb3 s = .next { s with reply := .byte s.chipB.ddrA }

/-- R136 to R144, R147: `RDB4` to `RDB12` and `RDB15` return their slot, and nothing else changes. -/
def Obligations.RawReadsOfChipBReturnTheSlot : Prop :=
  ∀ (i : Instr) (k : Index), (i, k) ∈ ([
      (.rdb4, 4), (.rdb5, 5), (.rdb6, 6), (.rdb7, 7), (.rdb8, 8),
      (.rdb9, 9), (.rdb10, 10), (.rdb11, 11), (.rdb12, 12), (.rdb15, 15)] : List (Instr × Index)) →
    ∀ s : State, exec i s = .next { s with reply := .byte s.chipB.reg[k] }

/-- R145: `RDB13` returns the stored flags in bits 6:0 and, in bit 7, whether any flag is set; nothing else changes. -/
def Obligations.FlagReadHasTheSummaryBit : Prop :=
  ∀ s : State, ∃ v : Byte, exec .rdb13 s = .next { s with reply := .byte v } ∧
    v.setWidth 7 = s.chipB.ifr ∧ (v.getLsbD 7 = true ↔ s.chipB.ifr ≠ 0)

/-- `RDB14` returns the enables in bits 6:0; bit 7 is 0, 1 or a free bit as `IER_READ_BIT7` says, and nothing of the block
changes (40_register_file.md section 4, the spec's own choice D10, log entry 17; the free bit is log entry 4). -/
def Obligations.EnableReadByParameter : Prop :=
  ∀ s : State, ∃ (v : Byte) (t : State), exec .rdb14 s = .next t ∧
    v.setWidth 7 = s.chipB.ier ∧
    t = { s with reply := .byte v, draws := t.draws } ∧
    match s.params.ierReadBit7 with
    | .zero => v.getLsbD 7 = false ∧ t.draws = s.draws
    | .one => v.getLsbD 7 = true ∧ t.draws = s.draws
    | .draw => v.getLsbD 7 = Config.freeBit s.draws ∧ t.draws = s.draws + 1

/-! ### Chip B: writes -/

/-- R148, R149: `WRB0` sets port B's output latch and `WRB1` port A's; `PORT_WRITE_CLEARS` says which flag is cleared with
it, and everything else is unchanged. -/
def Obligations.PortWritesSetTheLatch : Prop :=
  ∀ (v : Byte) (s : State),
    (∃ t, exec (.wrb0 v) s = .next t ∧
      (∀ k : Fin 7, t.chipB.ifr.getLsbD k.val = (s.chipB.ifr.getLsbD k.val &&
        match s.params.portWriteClears with
        | .none => true
        | .same => decide (k ≠ s.params.cbFlagBit)
        | .cross => decide (k ≠ s.params.caFlagBit))) ∧
      t = { s with chipB := { s.chipB with outB := v, ifr := t.chipB.ifr }, reply := .nothing }) ∧
    (∃ t, exec (.wrb1 v) s = .next t ∧
      (∀ k : Fin 7, t.chipB.ifr.getLsbD k.val = (s.chipB.ifr.getLsbD k.val &&
        match s.params.portWriteClears with
        | .none => true
        | .same => decide (k ≠ s.params.caFlagBit)
        | .cross => decide (k ≠ s.params.cbFlagBit))) ∧
      t = { s with chipB := { s.chipB with outA := v, ifr := t.chipB.ifr }, reply := .nothing })

/-- R150, R151: `WRB2` and `WRB3` set the direction registers, and nothing else changes. -/
def Obligations.DirectionWritesSetTheRegister : Prop :=
  ∀ (v : Byte) (s : State),
    exec (.wrb2 v) s = .next { s with chipB := { s.chipB with ddrB := v }, reply := .nothing } ∧
    exec (.wrb3 v) s = .next { s with chipB := { s.chipB with ddrA := v }, reply := .nothing }

/-- R152 to R160, R163: `WRB4` to `WRB12` and `WRB15` store the byte in their slot; every other slot and everything else is
unchanged. -/
def Obligations.RawWritesOfChipBStoreTheByte : Prop :=
  ∀ (f : Byte → Instr) (k : Index), (f, k) ∈ ([
      (.wrb4, 4), (.wrb5, 5), (.wrb6, 6), (.wrb7, 7), (.wrb8, 8),
      (.wrb9, 9), (.wrb10, 10), (.wrb11, 11), (.wrb12, 12), (.wrb15, 15)] : List ((Byte → Instr) × Index)) →
    ∀ (v : Byte) (s : State), ∃ t, exec (f v) s = .next t ∧
      t.chipB.reg[k] = v ∧ (∀ j : Index, j ≠ k → t.chipB.reg[j] = s.chipB.reg[j]) ∧
      t = { s with chipB := { s.chipB with reg := t.chipB.reg }, reply := .nothing }

/-- R161: `WRB13` changes nothing, whatever the byte. -/
def Obligations.FlagWriteIsIgnored : Prop :=
  ∀ (v : Byte) (s : State), exec (.wrb13 v) s = .next { s with reply := .nothing }

/-- R162: `WRB14` sets the enables that `v[6:0]` selects when `v[7]` is 1 and clears them when it is 0; unselected enables
and everything else are unchanged. -/
def Obligations.EnableWriteSetsOrClears : Prop :=
  ∀ (v : Byte) (s : State), ∃ t, exec (.wrb14 v) s = .next t ∧
    (∀ k : Fin 7, t.chipB.ier.getLsbD k.val =
      if v.getLsbD 7 then s.chipB.ier.getLsbD k.val || v.getLsbD k.val
      else s.chipB.ier.getLsbD k.val && !v.getLsbD k.val) ∧
    t = { s with chipB := { s.chipB with ier := t.chipB.ier }, reply := .nothing }

/-! ### The interrupt output -/

/-- R182: `IRQ` returns 1 exactly when some flag is set and enabled, and changes nothing. -/
def Obligations.InterruptOutputIsAnyEnabledFlag : Prop :=
  ∀ s : State, ∃ b : Bool, exec .irq s = .next { s with reply := .bit b } ∧
    (b = true ↔ ∃ k : Fin 7, s.chipB.ifr.getLsbD k.val = true ∧ s.chipB.ier.getLsbD k.val = true)

/-! ### Resolution -/

/-- R171: what each result of `Resolve` says of line i: passive unless an output latched 0, low if either side pulls it
low, and the readback the chip's own level on an output and the resolved level on an input. -/
def Obligations.ResolveLineByLine : Prop :=
  ∀ (inp out ddr : Byte) (i : Fin 8),
    (resolve inp out ddr).driving.getLsbD i.val = (!(ddr.getLsbD i.val && !out.getLsbD i.val)) ∧
    (resolve inp out ddr).pinstate.getLsbD i.val =
      (inp.getLsbD i.val && (resolve inp out ddr).driving.getLsbD i.val) ∧
    (resolve inp out ddr).readback.getLsbD i.val =
      (if ddr.getLsbD i.val then (resolve inp out ddr).driving.getLsbD i.val
       else (resolve inp out ddr).pinstate.getLsbD i.val)

/-- The closed forms that the spec derives from the formulas (41_pin_state.md, marked derived). -/
def Obligations.ResolveClosedForms : Prop :=
  ∀ inp out ddr : Byte,
    resolve inp out ddr =
      { driving := out ||| ~~~ddr
        pinstate := inp &&& (out ||| ~~~ddr)
        readback := (ddr &&& out) ||| (~~~ddr &&& inp) }

/-! ### The tick -/

/-- `STEP` takes the next given input levels or free ones, resolves both ports line by line, stores pin state, readback and
the monitored levels, and changes nothing but these, IFR and the driven lines (43_step.md sections 2 and 3; D8, D18, D25 and
log entries 3, 13 and 14). The external level of a position is the model's `roleLevel` of its `roleAt`; which input that is,
role by role, is EachRoleIsSampledAtItsPosition. -/
def Obligations.StepResolvesBothPorts : Prop :=
  ∀ s : State, ∃ t, exec .step s = .next t ∧
    (∀ b : Fin 8,
      t.chipB.pinA.getLsbD b.val =
        (roleLevel s.nextLines (roleAt s.params.pinMap ⟨.a, b⟩) && s.passiveAt ⟨.a, b⟩) ∧
      t.chipB.pinB.getLsbD b.val =
        (roleLevel s.nextLines (roleAt s.params.pinMap ⟨.b, b⟩) && s.passiveAt ⟨.b, b⟩) ∧
      t.chipB.rbA.getLsbD b.val =
        (if s.chipB.ddrA.getLsbD b.val then s.chipB.outA.getLsbD b.val
         else roleLevel s.nextLines (roleAt s.params.pinMap ⟨.a, b⟩)) ∧
      t.chipB.rbB.getLsbD b.val =
        (if s.chipB.ddrB.getLsbD b.val then s.chipB.outB.getLsbD b.val
         else roleLevel s.nextLines (roleAt s.params.pinMap ⟨.b, b⟩))) ∧
    t.chipB.prevCA = t.chipB.pinA.getLsbD s.params.caMonBit.val ∧
    t.chipB.prevCB = t.chipB.pinB.getLsbD s.params.cbMonBit.val ∧
    t.inputs = s.inputs.tail ∧
    t.draws = (if s.inputs = [] then s.draws + 1 else s.draws) ∧
    t = { s with
          chipB := { s.chipB with
            pinA := t.chipB.pinA, pinB := t.chipB.pinB, rbA := t.chipB.rbA, rbB := t.chipB.rbB
            ifr := t.chipB.ifr, prevCA := t.chipB.prevCA, prevCB := t.chipB.prevCB }
          driven := t.driven, reply := .nothing, inputs := t.inputs, draws := t.draws }

/-- With a well-formed pin map, each position of a role samples that role's own input, and every other position and those of
the joystick's latch and clock sample 1: the pin state is that level unless the chip pulls the line low, the readback the
output latch on an output and that level on an input (43_step.md sections 1 to 3; the spec's own choices D18 and D25, the
open map D7; log entries 3, 14 and 15). -/
def Obligations.EachRoleIsSampledAtItsPosition : Prop :=
  ∀ s : State, s.params.pinMap.wellFormed = true → ∃ t, exec .step s = .next t ∧
    (∀ (p : Pos) (level : Bool), (p, level) ∈ [
        (s.params.pinMap.p0Clk, s.nextLines.p0ClkOut), (s.params.pinMap.p0Data, s.nextLines.p0DataOut),
        (s.params.pinMap.p1Clk, s.nextLines.p1ClkOut), (s.params.pinMap.p1Data, s.nextLines.p1DataOut),
        (s.params.pinMap.joyData1, s.nextLines.joyData1), (s.params.pinMap.joyData2, s.nextLines.joyData2),
        (s.params.pinMap.joyLatch, true), (s.params.pinMap.joyClk, true)] →
      t.pinAt p = (level && s.passiveAt p) ∧
      t.readbackAt p = if s.outputAt p then s.latchAt p else level) ∧
    (∀ p : Pos, p ∉ s.params.pinMap.positions →
      t.pinAt p = s.passiveAt p ∧
      t.readbackAt p = if s.outputAt p then s.latchAt p else true)

/-- R204: each output line takes the resolved level, in the pin states the same step stores, of its role's position. -/
def Obligations.StepDrivesTheResolvedLevels : Prop :=
  ∀ s : State, ∃ t, exec .step s = .next t ∧
    let level : Pos → Bool := fun p =>
      match p.port with
      | .a => t.chipB.pinA.getLsbD p.bit.val
      | .b => t.chipB.pinB.getLsbD p.bit.val
    t.driven =
      { p0ClkIn := level s.params.pinMap.p0Clk, p0DataIn := level s.params.pinMap.p0Data
        p1ClkIn := level s.params.pinMap.p1Clk, p1DataIn := level s.params.pinMap.p1Data
        joyLatch := level s.params.pinMap.joyLatch, joyClock := level s.params.pinMap.joyClk }

/-- With a well-formed pin map, a peripheral's input line is high exactly when neither its peripheral nor the chip pulls it
low, and a joystick output exactly when the chip does not (43_step.md section 3, marked derived; D18, log entry 14). -/
def Obligations.DrivenLinesAreWiredAnd : Prop :=
  ∀ s : State, s.params.pinMap.wellFormed = true → ∃ t, exec .step s = .next t ∧
    t.driven =
      { p0ClkIn := s.nextLines.p0ClkOut && s.passiveAt s.params.pinMap.p0Clk
        p0DataIn := s.nextLines.p0DataOut && s.passiveAt s.params.pinMap.p0Data
        p1ClkIn := s.nextLines.p1ClkOut && s.passiveAt s.params.pinMap.p1Clk
        p1DataIn := s.nextLines.p1DataOut && s.passiveAt s.params.pinMap.p1Data
        joyLatch := s.passiveAt s.params.pinMap.joyLatch
        joyClock := s.passiveAt s.params.pinMap.joyClk }

/-- R205: with prevM the level a line had and the level the step stores as its current one, a flag is set on 1 to 0 and is
unchanged on every other pair; every other flag is unchanged. -/
def Obligations.FallingEdgeSetsItsFlag : Prop :=
  ∀ s : State, ∃ t, exec .step s = .next t ∧
    ∀ k : Fin 7, t.chipB.ifr.getLsbD k.val =
      (s.chipB.ifr.getLsbD k.val ||
       (decide (k = s.params.caFlagBit) && s.chipB.prevCA && !t.chipB.prevCA) ||
       (decide (k = s.params.cbFlagBit) && s.chipB.prevCB && !t.chipB.prevCB))

/-- A chip that pulls its own monitored port-A line low, when it was high, sets the CA-equivalent flag at the next step
whatever the inputs are, and port B likewise (70_reset_and_hazards.md section 3, marked derived; D8, log entry 13). -/
def Obligations.SelfTriggeredEdge : Prop :=
  ∀ s : State,
    (s.chipB.prevCA = true → s.chipB.ddrA.getLsbD s.params.caMonBit.val = true →
      s.chipB.outA.getLsbD s.params.caMonBit.val = false →
      ∃ t, exec .step s = .next t ∧ t.chipB.ifr.getLsbD s.params.caFlagBit.val = true) ∧
    (s.chipB.prevCB = true → s.chipB.ddrB.getLsbD s.params.cbMonBit.val = true →
      s.chipB.outB.getLsbD s.params.cbMonBit.val = false →
      ∃ t, exec .step s = .next t ∧ t.chipB.ifr.getLsbD s.params.cbFlagBit.val = true)

/-- A flag cleared by its port's read while its line is low stays clear over the next step, whatever the inputs are
(70_reset_and_hazards.md section 3 and 42_interrupt.md section 1, marked derived). -/
def Obligations.NoRetriggerAfterClearWhileLow : Prop :=
  ∀ s : State, s.params.caFlagBit ≠ s.params.cbFlagBit →
    (s.chipB.prevCA = false → ∃ t u, exec .rdb1 s = .next t ∧ exec .step t = .next u ∧
      u.chipB.ifr.getLsbD s.params.caFlagBit.val = false) ∧
    (s.chipB.prevCB = false → ∃ t u, exec .rdb0 s = .next t ∧ exec .step t = .next u ∧
      u.chipB.ifr.getLsbD s.params.cbFlagBit.val = false)

/-! ### Reset -/

/-- The values after reset, for every choice of the parameters (10_state.md section 7; the spec's own choices D3, D4, D6 and
log entries 8, 9 and 10), and that the machine's reset state is the one of some choice the spec admits (log entry 5). -/
def Obligations.ResetValues : Prop :=
  (∀ p : Params,
    (∀ k : Index, (State.resetWith p).chipA.reg[k] = 0 ∧ (State.resetWith p).chipB.reg[k] = 0) ∧
    State.resetWith p =
      { chipA := (State.resetWith p).chipA
        chipB :=
          { reg := (State.resetWith p).chipB.reg, ddrB := 0, ddrA := 0, outB := 0, outA := 0, pinB := 0, pinA := 0
            rbB := 0, rbA := 0, ifr := 0, ier := 0, prevCA := false, prevCB := false }
        bank := { romBank := p.romBankInit, ramBank := p.ramBankInit }
        driven := ⟨true, true, true, true, true, true⟩
        refused := false, params := p, reply := .nothing, pending := [], inputs := [], draws := 0 }) ∧
  ∃ p : Params, p.wellFormed = true ∧ State.reset = State.resetWith p

/-- After reset the interrupt output is 0; the first tick sets no flag whatever the inputs are, so that the flag register
still reads 0, and with every line passive it leaves every pin and driven line high (70_reset_and_hazards.md section 1,
marked derived, and D3, log entry 8; the pins and lines by 43_step.md sections 2 and 3 with D18, log entry 14, and the edge
history by D8, log entry 13). -/
def Obligations.FirstTickAfterReset : Prop :=
  ∀ (p : Params) (ls : List Lines) (s : State), s = { State.resetWith p with inputs := ls } →
    exec .irq s = .next { s with reply := .bit false } ∧
    ∃ t, exec .step s = .next t ∧ t.chipB.ifr = 0 ∧
      exec .irq t = .next { t with reply := .bit false } ∧
      exec .rdb13 t = .next { t with reply := .byte 0 } ∧
      (s.nextLines = ⟨true, true, true, true, true, true⟩ →
        t.chipB.pinA = 0xFF ∧ t.chipB.pinB = 0xFF ∧ t.chipB.rbA = 0xFF ∧ t.chipB.rbB = 0xFF ∧
        t.chipB.prevCA = true ∧ t.chipB.prevCB = true ∧ t.driven = ⟨true, true, true, true, true, true⟩)

/-- The reset state meets the invariant (log entries 5 and 8). -/
def Obligations.InvariantAtReset : Prop :=
  State.reset.Inv

/-! ### Rules of the whole machine -/

/-- Every step keeps the invariant: admitted parameters, and no flag but the two that have a source (10_state.md section 3
and 42_interrupt.md section 1, marked derived). -/
def Obligations.InvariantKeptByEveryStep : Prop :=
  ∀ s t : State, s.Inv → step s = .next t → t.Inv

/-- No step changes the parameters (00_scope.md section 4; that State holds them is the model's choice, log entry 5). -/
def Obligations.ParametersNeverChange : Prop :=
  ∀ s t : State, step s = .next t → t.params = s.params

/-- R180: after any instruction a flag is set exactly when a step saw its line fall, or it was set and no event that clears
it happened: a read of its own port register, or a port write under the parameter `PORT_WRITE_CLEARS`. -/
def Obligations.FlagTransitions : Prop :=
  ∀ (i : Instr) (s : State), ∃ t, exec i s = .next t ∧
    ∀ k : Fin 7, (t.chipB.ifr.getLsbD k.val = true ↔
      (i = .step ∧
        ((k = s.params.caFlagBit ∧ s.chipB.prevCA = true ∧ t.chipB.prevCA = false) ∨
         (k = s.params.cbFlagBit ∧ s.chipB.prevCB = true ∧ t.chipB.prevCB = false))) ∨
      (s.chipB.ifr.getLsbD k.val = true ∧
        ¬ (i = .rdb1 ∧ k = s.params.caFlagBit) ∧
        ¬ (i = .rdb0 ∧ k = s.params.cbFlagBit) ∧
        ¬ (s.params.portWriteClears = .same ∧
            ((∃ v, i = .wrb1 v) ∧ k = s.params.caFlagBit ∨ (∃ v, i = .wrb0 v) ∧ k = s.params.cbFlagBit)) ∧
        ¬ (s.params.portWriteClears = .cross ∧
            ((∃ v, i = .wrb0 v) ∧ k = s.params.caFlagBit ∨ (∃ v, i = .wrb1 v) ∧ k = s.params.cbFlagBit))))

/-- R183: IER changes only by a write of chip B index 14, by its set or clear convention. -/
def Obligations.EnablesChangeOnlyByTheirWrite : Prop :=
  ∀ (i : Instr) (s : State), ∃ t, exec i s = .next t ∧
    ∀ k : Fin 7, t.chipB.ier.getLsbD k.val =
      match i with
      | .wrb14 v =>
        if v.getLsbD 7 then s.chipB.ier.getLsbD k.val || v.getLsbD k.val
        else s.chipB.ier.getLsbD k.val && !v.getLsbD k.val
      | _ => s.chipB.ier.getLsbD k.val

/-- Only `WRA0` and `WRA1` set the bank selector (10_state.md section 4; the spec's own choice D5, log entry 18). -/
def Obligations.BanksChangeOnlyByChipAWrites : Prop :=
  ∀ (i : Instr) (s t : State), exec i s = .next t →
    (t.bank.romBank ≠ s.bank.romBank → ∃ v, i = .wra0 v) ∧
    (t.bank.ramBank ≠ s.bank.ramBank → ∃ v, i = .wra1 v)

/-- Only `STEP` changes the pin states, the readbacks, the edge history and the driven lines (10_state.md sections 3 and 4,
20_memory.md section 3; D12, D14, log entry 12). -/
def Obligations.OnlyAStepChangesTheLines : Prop :=
  ∀ (i : Instr) (s t : State), exec i s = .next t → i ≠ .step →
    t.chipB.pinA = s.chipB.pinA ∧ t.chipB.pinB = s.chipB.pinB ∧ t.chipB.rbA = s.chipB.rbA ∧
    t.chipB.rbB = s.chipB.rbB ∧ t.chipB.prevCA = s.chipB.prevCA ∧ t.chipB.prevCB = s.chipB.prevCB ∧
    t.driven = s.driven

/-- No operation of chip A reads or writes a field of chip B, whatever chip B holds, nor touches the driven lines; and no
operation of chip B, no step and no poll reads or writes chip A (R38) or the bank selector (43_step.md section 3 for the
step, the spec's own choice D5 for the rest, log entry 18), whatever they hold. The two runs draw the same free values
(log entry 4). -/
def Obligations.TheChipsAreDisjoint : Prop :=
  (∀ i : Instr, i.onChip .a = true → ∀ (s : State) (b : ChipB) (d : Driven), ∃ t, exec i s = .next t ∧
    exec i { s with chipB := b, driven := d } = .next { t with chipB := b, driven := d }) ∧
  (∀ i : Instr, i.onChip .a = false → ∀ (s : State) (a : ChipA) (k : Bank), ∃ t, exec i s = .next t ∧
    exec i { s with chipA := a, bank := k } = .next { t with chipA := a, bank := k })

/-- Two runs that differ only in the slots behind indices with a meaning of their own, or behind the timer placeholders,
give the same replies and go on differing only there: what `WRA4` and its like store is never observed (10_state.md
sections 2 and 3, D13 and D15; log entry 11). The two runs draw the same free values. -/
def Obligations.HiddenSlotsAreNeverObserved : Prop :=
  ∀ s s' : State, s.SameButHiddenSlots s' → ∃ t t', step s = .next t ∧ step s' = .next t' ∧
    t'.reply = t.reply ∧ t.SameButHiddenSlots t'

/-- Writing the same byte twice leaves the state that writing it once does (20_memory.md section 3, marked derived). -/
def Obligations.WritesAreIdempotent : Prop :=
  ∀ i : Instr, i.fields.op = .write → ∀ s : State, ∃ t, exec i s = .next t ∧ exec i t = .next t

/-- Every read but that of a port register leaves the block as it was, and every read whose value is not a free one gives
the same state and value again (20_memory.md section 3; the free values are log entry 4). -/
def Obligations.ReadsAndTheirSideEffects : Prop :=
  ∀ i : Instr, i.fields.op = .read → ∀ s : State, ∃ t, exec i s = .next t ∧
    (i ∉ [Instr.rdb0, .rdb1] → t.block = s.block) ∧
    (i ∉ [Instr.rda4, .rda5, .rda8, .rda9, .rdb14] → exec i t = .next t)

/-- A write of a latch or a direction register does not show in a port read before the next step (70_reset_and_hazards.md
section 3, the spec's own choice D12, log entry 12). -/
def Obligations.PortReadBeforeTheNextStepIsOld : Prop :=
  ∀ f ∈ [Instr.wrb0, .wrb1, .wrb2, .wrb3], ∀ (v : Byte) (s : State), ∃ t u w, exec (f v) s = .next t ∧
    exec .rdb0 t = .next u ∧ u.reply = .byte s.chipB.rbB ∧
    exec .rdb1 t = .next w ∧ w.reply = .byte s.chipB.rbA

/-- A host that keeps its duty is never refused: with every index in 0..15 and every word's must-be-zero fields zero, a step
keeps the duty and leaves the refusal mark as it is (20_memory.md section 5, 30_encoding.md sections 1 and 3,
60_exceptions.md section 1; D1, D19; log entries 1, 6 and 21). -/
def Obligations.DutifulHostIsNeverRefused : Prop :=
  ∀ s t : State, s.hostKeepsDuty = true → step s = .next t →
    t.hostKeepsDuty = true ∧ t.refused = s.refused
end

