-- ==== Sys2Proof/Laws/State.lean ====
section
/-! SUPPORT. What each update of the state leaves in each field: one lemma per field per update, so that no proof unfolds a
record update. -/

namespace Sys2Proof.Machine

@[simp] theorem State.setSlotA_chipA (k : Index) (v : Byte) (s : State) :
    (s.setSlotA k v).chipA = { reg := s.chipA.reg.set k v } := rfl
@[simp] theorem State.setSlotA_chipB (k : Index) (v : Byte) (s : State) :
    (s.setSlotA k v).chipB = s.chipB := rfl
@[simp] theorem State.setSlotA_bank (k : Index) (v : Byte) (s : State) :
    (s.setSlotA k v).bank = s.bank := rfl
@[simp] theorem State.setSlotA_driven (k : Index) (v : Byte) (s : State) :
    (s.setSlotA k v).driven = s.driven := rfl
@[simp] theorem State.setSlotA_refused (k : Index) (v : Byte) (s : State) :
    (s.setSlotA k v).refused = s.refused := rfl
@[simp] theorem State.setSlotA_params (k : Index) (v : Byte) (s : State) :
    (s.setSlotA k v).params = s.params := rfl
@[simp] theorem State.setSlotA_reply (k : Index) (v : Byte) (s : State) :
    (s.setSlotA k v).reply = s.reply := rfl
@[simp] theorem State.setSlotA_pending (k : Index) (v : Byte) (s : State) :
    (s.setSlotA k v).pending = s.pending := rfl
@[simp] theorem State.setSlotA_inputs (k : Index) (v : Byte) (s : State) :
    (s.setSlotA k v).inputs = s.inputs := rfl
@[simp] theorem State.setSlotA_draws (k : Index) (v : Byte) (s : State) :
    (s.setSlotA k v).draws = s.draws := rfl

@[simp] theorem State.setSlotB_chipA (k : Index) (v : Byte) (s : State) :
    (s.setSlotB k v).chipA = s.chipA := rfl
@[simp] theorem State.setSlotB_chipB (k : Index) (v : Byte) (s : State) :
    (s.setSlotB k v).chipB = { s.chipB with reg := s.chipB.reg.set k v } := rfl
@[simp] theorem State.setSlotB_bank (k : Index) (v : Byte) (s : State) :
    (s.setSlotB k v).bank = s.bank := rfl
@[simp] theorem State.setSlotB_driven (k : Index) (v : Byte) (s : State) :
    (s.setSlotB k v).driven = s.driven := rfl
@[simp] theorem State.setSlotB_refused (k : Index) (v : Byte) (s : State) :
    (s.setSlotB k v).refused = s.refused := rfl
@[simp] theorem State.setSlotB_params (k : Index) (v : Byte) (s : State) :
    (s.setSlotB k v).params = s.params := rfl
@[simp] theorem State.setSlotB_reply (k : Index) (v : Byte) (s : State) :
    (s.setSlotB k v).reply = s.reply := rfl
@[simp] theorem State.setSlotB_pending (k : Index) (v : Byte) (s : State) :
    (s.setSlotB k v).pending = s.pending := rfl
@[simp] theorem State.setSlotB_inputs (k : Index) (v : Byte) (s : State) :
    (s.setSlotB k v).inputs = s.inputs := rfl
@[simp] theorem State.setSlotB_draws (k : Index) (v : Byte) (s : State) :
    (s.setSlotB k v).draws = s.draws := rfl

@[simp] theorem State.setRomBank_chipA (v : BitVec 3) (s : State) :
    (s.setRomBank v).chipA = s.chipA := rfl
@[simp] theorem State.setRomBank_chipB (v : BitVec 3) (s : State) :
    (s.setRomBank v).chipB = s.chipB := rfl
@[simp] theorem State.setRomBank_bank (v : BitVec 3) (s : State) :
    (s.setRomBank v).bank = { s.bank with romBank := v } := rfl
@[simp] theorem State.setRomBank_driven (v : BitVec 3) (s : State) :
    (s.setRomBank v).driven = s.driven := rfl
@[simp] theorem State.setRomBank_refused (v : BitVec 3) (s : State) :
    (s.setRomBank v).refused = s.refused := rfl
@[simp] theorem State.setRomBank_params (v : BitVec 3) (s : State) :
    (s.setRomBank v).params = s.params := rfl
@[simp] theorem State.setRomBank_reply (v : BitVec 3) (s : State) :
    (s.setRomBank v).reply = s.reply := rfl
@[simp] theorem State.setRomBank_pending (v : BitVec 3) (s : State) :
    (s.setRomBank v).pending = s.pending := rfl
@[simp] theorem State.setRomBank_inputs (v : BitVec 3) (s : State) :
    (s.setRomBank v).inputs = s.inputs := rfl
@[simp] theorem State.setRomBank_draws (v : BitVec 3) (s : State) :
    (s.setRomBank v).draws = s.draws := rfl

@[simp] theorem State.setRamBank_chipA (v : Byte) (s : State) :
    (s.setRamBank v).chipA = s.chipA := rfl
@[simp] theorem State.setRamBank_chipB (v : Byte) (s : State) :
    (s.setRamBank v).chipB = s.chipB := rfl
@[simp] theorem State.setRamBank_bank (v : Byte) (s : State) :
    (s.setRamBank v).bank = { s.bank with ramBank := v } := rfl
@[simp] theorem State.setRamBank_driven (v : Byte) (s : State) :
    (s.setRamBank v).driven = s.driven := rfl
@[simp] theorem State.setRamBank_refused (v : Byte) (s : State) :
    (s.setRamBank v).refused = s.refused := rfl
@[simp] theorem State.setRamBank_params (v : Byte) (s : State) :
    (s.setRamBank v).params = s.params := rfl
@[simp] theorem State.setRamBank_reply (v : Byte) (s : State) :
    (s.setRamBank v).reply = s.reply := rfl
@[simp] theorem State.setRamBank_pending (v : Byte) (s : State) :
    (s.setRamBank v).pending = s.pending := rfl
@[simp] theorem State.setRamBank_inputs (v : Byte) (s : State) :
    (s.setRamBank v).inputs = s.inputs := rfl
@[simp] theorem State.setRamBank_draws (v : Byte) (s : State) :
    (s.setRamBank v).draws = s.draws := rfl

@[simp] theorem State.setDdrB_chipA (v : Byte) (s : State) :
    (s.setDdrB v).chipA = s.chipA := rfl
@[simp] theorem State.setDdrB_chipB (v : Byte) (s : State) :
    (s.setDdrB v).chipB = { s.chipB with ddrB := v } := rfl
@[simp] theorem State.setDdrB_bank (v : Byte) (s : State) :
    (s.setDdrB v).bank = s.bank := rfl
@[simp] theorem State.setDdrB_driven (v : Byte) (s : State) :
    (s.setDdrB v).driven = s.driven := rfl
@[simp] theorem State.setDdrB_refused (v : Byte) (s : State) :
    (s.setDdrB v).refused = s.refused := rfl
@[simp] theorem State.setDdrB_params (v : Byte) (s : State) :
    (s.setDdrB v).params = s.params := rfl
@[simp] theorem State.setDdrB_reply (v : Byte) (s : State) :
    (s.setDdrB v).reply = s.reply := rfl
@[simp] theorem State.setDdrB_pending (v : Byte) (s : State) :
    (s.setDdrB v).pending = s.pending := rfl
@[simp] theorem State.setDdrB_inputs (v : Byte) (s : State) :
    (s.setDdrB v).inputs = s.inputs := rfl
@[simp] theorem State.setDdrB_draws (v : Byte) (s : State) :
    (s.setDdrB v).draws = s.draws := rfl

@[simp] theorem State.setDdrA_chipA (v : Byte) (s : State) :
    (s.setDdrA v).chipA = s.chipA := rfl
@[simp] theorem State.setDdrA_chipB (v : Byte) (s : State) :
    (s.setDdrA v).chipB = { s.chipB with ddrA := v } := rfl
@[simp] theorem State.setDdrA_bank (v : Byte) (s : State) :
    (s.setDdrA v).bank = s.bank := rfl
@[simp] theorem State.setDdrA_driven (v : Byte) (s : State) :
    (s.setDdrA v).driven = s.driven := rfl
@[simp] theorem State.setDdrA_refused (v : Byte) (s : State) :
    (s.setDdrA v).refused = s.refused := rfl
@[simp] theorem State.setDdrA_params (v : Byte) (s : State) :
    (s.setDdrA v).params = s.params := rfl
@[simp] theorem State.setDdrA_reply (v : Byte) (s : State) :
    (s.setDdrA v).reply = s.reply := rfl
@[simp] theorem State.setDdrA_pending (v : Byte) (s : State) :
    (s.setDdrA v).pending = s.pending := rfl
@[simp] theorem State.setDdrA_inputs (v : Byte) (s : State) :
    (s.setDdrA v).inputs = s.inputs := rfl
@[simp] theorem State.setDdrA_draws (v : Byte) (s : State) :
    (s.setDdrA v).draws = s.draws := rfl

@[simp] theorem State.setOutB_chipA (v : Byte) (s : State) :
    (s.setOutB v).chipA = s.chipA := rfl
@[simp] theorem State.setOutB_chipB (v : Byte) (s : State) :
    (s.setOutB v).chipB = { s.chipB with outB := v } := rfl
@[simp] theorem State.setOutB_bank (v : Byte) (s : State) :
    (s.setOutB v).bank = s.bank := rfl
@[simp] theorem State.setOutB_driven (v : Byte) (s : State) :
    (s.setOutB v).driven = s.driven := rfl
@[simp] theorem State.setOutB_refused (v : Byte) (s : State) :
    (s.setOutB v).refused = s.refused := rfl
@[simp] theorem State.setOutB_params (v : Byte) (s : State) :
    (s.setOutB v).params = s.params := rfl
@[simp] theorem State.setOutB_reply (v : Byte) (s : State) :
    (s.setOutB v).reply = s.reply := rfl
@[simp] theorem State.setOutB_pending (v : Byte) (s : State) :
    (s.setOutB v).pending = s.pending := rfl
@[simp] theorem State.setOutB_inputs (v : Byte) (s : State) :
    (s.setOutB v).inputs = s.inputs := rfl
@[simp] theorem State.setOutB_draws (v : Byte) (s : State) :
    (s.setOutB v).draws = s.draws := rfl

@[simp] theorem State.setOutA_chipA (v : Byte) (s : State) :
    (s.setOutA v).chipA = s.chipA := rfl
@[simp] theorem State.setOutA_chipB (v : Byte) (s : State) :
    (s.setOutA v).chipB = { s.chipB with outA := v } := rfl
@[simp] theorem State.setOutA_bank (v : Byte) (s : State) :
    (s.setOutA v).bank = s.bank := rfl
@[simp] theorem State.setOutA_driven (v : Byte) (s : State) :
    (s.setOutA v).driven = s.driven := rfl
@[simp] theorem State.setOutA_refused (v : Byte) (s : State) :
    (s.setOutA v).refused = s.refused := rfl
@[simp] theorem State.setOutA_params (v : Byte) (s : State) :
    (s.setOutA v).params = s.params := rfl
@[simp] theorem State.setOutA_reply (v : Byte) (s : State) :
    (s.setOutA v).reply = s.reply := rfl
@[simp] theorem State.setOutA_pending (v : Byte) (s : State) :
    (s.setOutA v).pending = s.pending := rfl
@[simp] theorem State.setOutA_inputs (v : Byte) (s : State) :
    (s.setOutA v).inputs = s.inputs := rfl
@[simp] theorem State.setOutA_draws (v : Byte) (s : State) :
    (s.setOutA v).draws = s.draws := rfl

@[simp] theorem State.setIfr_chipA (f : BitVec 7) (s : State) :
    (s.setIfr f).chipA = s.chipA := rfl
@[simp] theorem State.setIfr_chipB (f : BitVec 7) (s : State) :
    (s.setIfr f).chipB = { s.chipB with ifr := f } := rfl
@[simp] theorem State.setIfr_bank (f : BitVec 7) (s : State) :
    (s.setIfr f).bank = s.bank := rfl
@[simp] theorem State.setIfr_driven (f : BitVec 7) (s : State) :
    (s.setIfr f).driven = s.driven := rfl
@[simp] theorem State.setIfr_refused (f : BitVec 7) (s : State) :
    (s.setIfr f).refused = s.refused := rfl
@[simp] theorem State.setIfr_params (f : BitVec 7) (s : State) :
    (s.setIfr f).params = s.params := rfl
@[simp] theorem State.setIfr_reply (f : BitVec 7) (s : State) :
    (s.setIfr f).reply = s.reply := rfl
@[simp] theorem State.setIfr_pending (f : BitVec 7) (s : State) :
    (s.setIfr f).pending = s.pending := rfl
@[simp] theorem State.setIfr_inputs (f : BitVec 7) (s : State) :
    (s.setIfr f).inputs = s.inputs := rfl
@[simp] theorem State.setIfr_draws (f : BitVec 7) (s : State) :
    (s.setIfr f).draws = s.draws := rfl

@[simp] theorem State.setIer_chipA (e : BitVec 7) (s : State) :
    (s.setIer e).chipA = s.chipA := rfl
@[simp] theorem State.setIer_chipB (e : BitVec 7) (s : State) :
    (s.setIer e).chipB = { s.chipB with ier := e } := rfl
@[simp] theorem State.setIer_bank (e : BitVec 7) (s : State) :
    (s.setIer e).bank = s.bank := rfl
@[simp] theorem State.setIer_driven (e : BitVec 7) (s : State) :
    (s.setIer e).driven = s.driven := rfl
@[simp] theorem State.setIer_refused (e : BitVec 7) (s : State) :
    (s.setIer e).refused = s.refused := rfl
@[simp] theorem State.setIer_params (e : BitVec 7) (s : State) :
    (s.setIer e).params = s.params := rfl
@[simp] theorem State.setIer_reply (e : BitVec 7) (s : State) :
    (s.setIer e).reply = s.reply := rfl
@[simp] theorem State.setIer_pending (e : BitVec 7) (s : State) :
    (s.setIer e).pending = s.pending := rfl
@[simp] theorem State.setIer_inputs (e : BitVec 7) (s : State) :
    (s.setIer e).inputs = s.inputs := rfl
@[simp] theorem State.setIer_draws (e : BitVec 7) (s : State) :
    (s.setIer e).draws = s.draws := rfl

@[simp] theorem State.setReply_chipA (r : Reply) (s : State) :
    (s.setReply r).chipA = s.chipA := rfl
@[simp] theorem State.setReply_chipB (r : Reply) (s : State) :
    (s.setReply r).chipB = s.chipB := rfl
@[simp] theorem State.setReply_bank (r : Reply) (s : State) :
    (s.setReply r).bank = s.bank := rfl
@[simp] theorem State.setReply_driven (r : Reply) (s : State) :
    (s.setReply r).driven = s.driven := rfl
@[simp] theorem State.setReply_refused (r : Reply) (s : State) :
    (s.setReply r).refused = s.refused := rfl
@[simp] theorem State.setReply_params (r : Reply) (s : State) :
    (s.setReply r).params = s.params := rfl
@[simp] theorem State.setReply_reply (r : Reply) (s : State) :
    (s.setReply r).reply = r := rfl
@[simp] theorem State.setReply_pending (r : Reply) (s : State) :
    (s.setReply r).pending = s.pending := rfl
@[simp] theorem State.setReply_inputs (r : Reply) (s : State) :
    (s.setReply r).inputs = s.inputs := rfl
@[simp] theorem State.setReply_draws (r : Reply) (s : State) :
    (s.setReply r).draws = s.draws := rfl

@[simp] theorem State.countDraw_chipA (s : State) :
    (s.countDraw).chipA = s.chipA := rfl
@[simp] theorem State.countDraw_chipB (s : State) :
    (s.countDraw).chipB = s.chipB := rfl
@[simp] theorem State.countDraw_bank (s : State) :
    (s.countDraw).bank = s.bank := rfl
@[simp] theorem State.countDraw_driven (s : State) :
    (s.countDraw).driven = s.driven := rfl
@[simp] theorem State.countDraw_refused (s : State) :
    (s.countDraw).refused = s.refused := rfl
@[simp] theorem State.countDraw_params (s : State) :
    (s.countDraw).params = s.params := rfl
@[simp] theorem State.countDraw_reply (s : State) :
    (s.countDraw).reply = s.reply := rfl
@[simp] theorem State.countDraw_pending (s : State) :
    (s.countDraw).pending = s.pending := rfl
@[simp] theorem State.countDraw_inputs (s : State) :
    (s.countDraw).inputs = s.inputs := rfl
@[simp] theorem State.countDraw_draws (s : State) :
    (s.countDraw).draws = s.draws + 1 := rfl

@[simp] theorem State.refuse_chipA (r : RefuseReason) (s : State) :
    (s.refuse r).chipA = s.chipA := rfl
@[simp] theorem State.refuse_chipB (r : RefuseReason) (s : State) :
    (s.refuse r).chipB = s.chipB := rfl
@[simp] theorem State.refuse_bank (r : RefuseReason) (s : State) :
    (s.refuse r).bank = s.bank := rfl
@[simp] theorem State.refuse_driven (r : RefuseReason) (s : State) :
    (s.refuse r).driven = s.driven := rfl
@[simp] theorem State.refuse_refused (r : RefuseReason) (s : State) :
    (s.refuse r).refused = true := rfl
@[simp] theorem State.refuse_params (r : RefuseReason) (s : State) :
    (s.refuse r).params = s.params := rfl
@[simp] theorem State.refuse_reply (r : RefuseReason) (s : State) :
    (s.refuse r).reply = .refused r := rfl
@[simp] theorem State.refuse_pending (r : RefuseReason) (s : State) :
    (s.refuse r).pending = s.pending := rfl
@[simp] theorem State.refuse_inputs (r : RefuseReason) (s : State) :
    (s.refuse r).inputs = s.inputs := rfl
@[simp] theorem State.refuse_draws (r : RefuseReason) (s : State) :
    (s.refuse r).draws = s.draws := rfl

@[simp] theorem State.issueFirst_chipA (c : HostCall) (s : State) :
    (s.issueFirst c).chipA = s.chipA := rfl
@[simp] theorem State.issueFirst_chipB (c : HostCall) (s : State) :
    (s.issueFirst c).chipB = s.chipB := rfl
@[simp] theorem State.issueFirst_bank (c : HostCall) (s : State) :
    (s.issueFirst c).bank = s.bank := rfl
@[simp] theorem State.issueFirst_driven (c : HostCall) (s : State) :
    (s.issueFirst c).driven = s.driven := rfl
@[simp] theorem State.issueFirst_refused (c : HostCall) (s : State) :
    (s.issueFirst c).refused = s.refused := rfl
@[simp] theorem State.issueFirst_params (c : HostCall) (s : State) :
    (s.issueFirst c).params = s.params := rfl
@[simp] theorem State.issueFirst_reply (c : HostCall) (s : State) :
    (s.issueFirst c).reply = s.reply := rfl
@[simp] theorem State.issueFirst_pending (c : HostCall) (s : State) :
    (s.issueFirst c).pending = c :: s.pending := rfl
@[simp] theorem State.issueFirst_inputs (c : HostCall) (s : State) :
    (s.issueFirst c).inputs = s.inputs := rfl
@[simp] theorem State.issueFirst_draws (c : HostCall) (s : State) :
    (s.issueFirst c).draws = s.draws := rfl

end Sys2Proof.Machine
end

