-- ==== Sys2Proof/Laws/Ops.lean ====
section
/-! SUPPORT. For each shared operation, what it can do, said once. -/

namespace Sys2Proof.Machine

/-- The parameters of the machine that reset makes are ones R10 admits. -/
theorem config_params_wellFormed : Config.params.wellFormed = true := by
  unfold Config.params
  split
  · assumption
  · decide

theorem done_eq (s : State) : done s = .next (s.setReply .nothing) := rfl

theorem returnByte_eq (v : Byte) (s : State) : returnByte v s = .next (s.setReply (.byte v)) := rfl

theorem returnBit_eq (b : Bool) (s : State) : returnBit b s = .next (s.setReply (.bit b)) := rfl

theorem drawByte_eq (s : State) : drawByte s = (Config.freeByte s.draws, s.countDraw) := rfl

theorem drawBit_eq (s : State) : drawBit s = (Config.freeBit s.draws, s.countDraw) := rfl

theorem sampleLines_cases (s : State) :
    (s.inputs = [] ∧ sampleLines s = (Config.freeLines s.draws, s.countDraw)) ∨
    (∃ l rest, s.inputs = l :: rest ∧ sampleLines s = (l, { s with inputs := rest })) := by
  unfold sampleLines
  cases h : s.inputs with
  | nil => exact .inl ⟨rfl, rfl⟩
  | cons l rest => exact .inr ⟨l, rest, rfl, rfl⟩

theorem nextCall_cases (s : State) :
    (s.pending = [] ∧ nextCall s = none) ∨
    (∃ c rest, s.pending = c :: rest ∧ nextCall s = some (c, { s with pending := rest })) := by
  unfold nextCall
  cases h : s.pending with
  | nil => exact .inl ⟨rfl, rfl⟩
  | cons c rest => exact .inr ⟨c, rest, rfl, rfl⟩

theorem slotA_setSlotA (j k : Index) (v : Byte) (s : State) :
    (s.setSlotA k v).slotA j = if j = k then v else s.slotA j := by
  simp only [State.slotA, State.setSlotA_chipA, Fin.getElem_fin, Vector.getElem_set, Fin.ext_iff, eq_comm]

theorem slotB_setSlotB (j k : Index) (v : Byte) (s : State) :
    (s.setSlotB k v).slotB j = if j = k then v else s.slotB j := by
  simp only [State.slotB, State.setSlotB_chipB, Fin.getElem_fin, Vector.getElem_set, Fin.ext_iff, eq_comm]

theorem flagBit_getLsbD : ∀ k j : Fin 7, (flagBit k).getLsbD j.val = decide (j = k) := by decide

theorem setFlag_getLsbD (k j : Fin 7) (f : BitVec 7) :
    (setFlag k f).getLsbD j.val = (f.getLsbD j.val || decide (j = k)) := by
  simp only [setFlag, BitVec.getLsbD_or, flagBit_getLsbD]

theorem clearFlag_getLsbD (k j : Fin 7) (f : BitVec 7) :
    (clearFlag k f).getLsbD j.val = (f.getLsbD j.val && !decide (j = k)) := by
  simp only [clearFlag, BitVec.getLsbD_and, BitVec.getLsbD_not, flagBit_getLsbD, j.isLt, decide_true, Bool.true_and]

theorem detectEdge_getLsbD (k j : Fin 7) (prev cur : Bool) (f : BitVec 7) :
    (detectEdge k prev cur f).getLsbD j.val = (f.getLsbD j.val || (decide (j = k) && prev && !cur)) := by
  unfold detectEdge fell
  cases prev <;> cases cur <;> simp [-BitVec.getLsbD_eq_getElem, setFlag_getLsbD]

/-- Clearing a port's flag changes nothing but IFR. -/
theorem clearPortFlag_eq (p : Port) (s : State) :
    s.clearPortFlag p =
      s.setIfr (clearFlag (match p with | .a => s.params.caFlagBit | .b => s.params.cbFlagBit) s.chipB.ifr) := by
  cases p <;> rfl

/-- What a write of a port's register can do to the flags. -/
theorem portWriteClear_cases (p : Port) (s : State) :
    (s.params.portWriteClears = .none ∧ s.portWriteClear p = s) ∨
    (s.params.portWriteClears = .same ∧ s.portWriteClear p = s.clearPortFlag p) ∨
    (s.params.portWriteClears = .cross ∧ s.portWriteClear p = s.clearPortFlag (otherPort p)) := by
  unfold State.portWriteClear
  cases h : s.params.portWriteClears <;> simp

/-- What bit 7 of a read of IER can be. -/
theorem ierBit7_cases (s : State) :
    (s.params.ierReadBit7 = .zero ∧ ierBit7 s = (false, s)) ∨
    (s.params.ierReadBit7 = .one ∧ ierBit7 s = (true, s)) ∨
    (s.params.ierReadBit7 = .draw ∧ ierBit7 s = (Config.freeBit s.draws, s.countDraw)) := by
  unfold ierBit7
  cases h : s.params.ierReadBit7 <;> simp [drawBit]

/-- Bit b of a port's in-vector is the external level at that position. -/
theorem inVector_getLsbD (m : PinMap) (l : Lines) (p : Port) (b : Fin 8) :
    (inVector m l p).getLsbD b.val = roleLevel l (roleAt m ⟨p, b⟩) := by
  simp [inVector]

/-- A tick leaves everything but chip B's own fields and the driven lines. -/
theorem tick_frame (l : Lines) (s : State) :
    tick l s = { s with chipB := (tick l s).chipB, driven := (tick l s).driven } := rfl

/-- A tick changes no slot, direction register, latch or enable of chip B. -/
theorem tick_chipB_frame (l : Lines) (s : State) :
    (tick l s).chipB =
      { (tick l s).chipB with
        reg := s.chipB.reg, ddrB := s.chipB.ddrB, ddrA := s.chipB.ddrA
        outB := s.chipB.outB, outA := s.chipB.outA, ier := s.chipB.ier } := rfl

@[simp] theorem tick_params (l : Lines) (s : State) : (tick l s).params = s.params := rfl

theorem tick_pinA (l : Lines) (s : State) :
    (tick l s).chipB.pinA = (resolve (inVector s.params.pinMap l .a) s.chipB.outA s.chipB.ddrA).pinstate := rfl

theorem tick_pinB (l : Lines) (s : State) :
    (tick l s).chipB.pinB = (resolve (inVector s.params.pinMap l .b) s.chipB.outB s.chipB.ddrB).pinstate := rfl

theorem tick_rbA (l : Lines) (s : State) :
    (tick l s).chipB.rbA = (resolve (inVector s.params.pinMap l .a) s.chipB.outA s.chipB.ddrA).readback := rfl

theorem tick_rbB (l : Lines) (s : State) :
    (tick l s).chipB.rbB = (resolve (inVector s.params.pinMap l .b) s.chipB.outB s.chipB.ddrB).readback := rfl

theorem tick_prevCA (l : Lines) (s : State) :
    (tick l s).chipB.prevCA = (tick l s).chipB.pinA.getLsbD s.params.caMonBit.val := rfl

theorem tick_prevCB (l : Lines) (s : State) :
    (tick l s).chipB.prevCB = (tick l s).chipB.pinB.getLsbD s.params.cbMonBit.val := rfl

theorem tick_ifr (l : Lines) (s : State) :
    (tick l s).chipB.ifr =
      detectEdge s.params.cbFlagBit s.chipB.prevCB (tick l s).chipB.prevCB
        (detectEdge s.params.caFlagBit s.chipB.prevCA (tick l s).chipB.prevCA s.chipB.ifr) := rfl

theorem tick_driven (l : Lines) (s : State) :
    (tick l s).driven = drivenLines s.params.pinMap (tick l s).chipB.pinA (tick l s).chipB.pinB := rfl

end Sys2Proof.Machine
end

