-- ==== Sys2Proof/Laws/PerInstr.lean ====
section
/-! SUPPORT. The statements made once per instruction, about the instruction as syntax: one lemma per constructor. -/

namespace Sys2Proof.Laws.EncodedFields

/-- The instruction is well formed, and the word its own rule gives it (`encode`) is the word that holds its operation,
chip, index and data byte at the places 30_encoding.md R71 gives them. -/
def Statement (i : Instr) : Prop :=
  i.wellFormed = true ∧ encode i = i.fields.word

/-- A write's word is the word of its operation, chip and index, with its data byte in the low bits. -/
theorem word_of_head (c : Chip) (k : Index) {h : OpWord}
    (e : h = Op.write.bits <<< 14 ||| c.bit <<< 12 ||| BitVec.ofNat 16 k.val <<< 8) (v : Byte) :
    h ||| v.setWidth 16 = Fields.word ⟨.write, c, k, v⟩ := by
  subst e
  rfl

theorem rda0 : Statement .rda0 := ⟨rfl, by decide⟩
theorem rda1 : Statement .rda1 := ⟨rfl, by decide⟩
theorem rda2 : Statement .rda2 := ⟨rfl, by decide⟩
theorem rda3 : Statement .rda3 := ⟨rfl, by decide⟩
theorem rda4 : Statement .rda4 := ⟨rfl, by decide⟩
theorem rda5 : Statement .rda5 := ⟨rfl, by decide⟩
theorem rda6 : Statement .rda6 := ⟨rfl, by decide⟩
theorem rda7 : Statement .rda7 := ⟨rfl, by decide⟩
theorem rda8 : Statement .rda8 := ⟨rfl, by decide⟩
theorem rda9 : Statement .rda9 := ⟨rfl, by decide⟩
theorem rda10 : Statement .rda10 := ⟨rfl, by decide⟩
theorem rda11 : Statement .rda11 := ⟨rfl, by decide⟩
theorem rda12 : Statement .rda12 := ⟨rfl, by decide⟩
theorem rda13 : Statement .rda13 := ⟨rfl, by decide⟩
theorem rda14 : Statement .rda14 := ⟨rfl, by decide⟩
theorem rda15 : Statement .rda15 := ⟨rfl, by decide⟩
theorem wra0 (v : Byte) : Statement (.wra0 v) := ⟨rfl, word_of_head .a 0 (by decide) v⟩
theorem wra1 (v : Byte) : Statement (.wra1 v) := ⟨rfl, word_of_head .a 1 (by decide) v⟩
theorem wra2 (v : Byte) : Statement (.wra2 v) := ⟨rfl, word_of_head .a 2 (by decide) v⟩
theorem wra3 (v : Byte) : Statement (.wra3 v) := ⟨rfl, word_of_head .a 3 (by decide) v⟩
theorem wra4 (v : Byte) : Statement (.wra4 v) := ⟨rfl, word_of_head .a 4 (by decide) v⟩
theorem wra5 (v : Byte) : Statement (.wra5 v) := ⟨rfl, word_of_head .a 5 (by decide) v⟩
theorem wra6 (v : Byte) : Statement (.wra6 v) := ⟨rfl, word_of_head .a 6 (by decide) v⟩
theorem wra7 (v : Byte) : Statement (.wra7 v) := ⟨rfl, word_of_head .a 7 (by decide) v⟩
theorem wra8 (v : Byte) : Statement (.wra8 v) := ⟨rfl, word_of_head .a 8 (by decide) v⟩
theorem wra9 (v : Byte) : Statement (.wra9 v) := ⟨rfl, word_of_head .a 9 (by decide) v⟩
theorem wra10 (v : Byte) : Statement (.wra10 v) := ⟨rfl, word_of_head .a 10 (by decide) v⟩
theorem wra11 (v : Byte) : Statement (.wra11 v) := ⟨rfl, word_of_head .a 11 (by decide) v⟩
theorem wra12 (v : Byte) : Statement (.wra12 v) := ⟨rfl, word_of_head .a 12 (by decide) v⟩
theorem wra13 (v : Byte) : Statement (.wra13 v) := ⟨rfl, word_of_head .a 13 (by decide) v⟩
theorem wra14 (v : Byte) : Statement (.wra14 v) := ⟨rfl, word_of_head .a 14 (by decide) v⟩
theorem wra15 (v : Byte) : Statement (.wra15 v) := ⟨rfl, word_of_head .a 15 (by decide) v⟩
theorem rdb0 : Statement .rdb0 := ⟨rfl, by decide⟩
theorem rdb1 : Statement .rdb1 := ⟨rfl, by decide⟩
theorem rdb2 : Statement .rdb2 := ⟨rfl, by decide⟩
theorem rdb3 : Statement .rdb3 := ⟨rfl, by decide⟩
theorem rdb4 : Statement .rdb4 := ⟨rfl, by decide⟩
theorem rdb5 : Statement .rdb5 := ⟨rfl, by decide⟩
theorem rdb6 : Statement .rdb6 := ⟨rfl, by decide⟩
theorem rdb7 : Statement .rdb7 := ⟨rfl, by decide⟩
theorem rdb8 : Statement .rdb8 := ⟨rfl, by decide⟩
theorem rdb9 : Statement .rdb9 := ⟨rfl, by decide⟩
theorem rdb10 : Statement .rdb10 := ⟨rfl, by decide⟩
theorem rdb11 : Statement .rdb11 := ⟨rfl, by decide⟩
theorem rdb12 : Statement .rdb12 := ⟨rfl, by decide⟩
theorem rdb13 : Statement .rdb13 := ⟨rfl, by decide⟩
theorem rdb14 : Statement .rdb14 := ⟨rfl, by decide⟩
theorem rdb15 : Statement .rdb15 := ⟨rfl, by decide⟩
theorem wrb0 (v : Byte) : Statement (.wrb0 v) := ⟨rfl, word_of_head .b 0 (by decide) v⟩
theorem wrb1 (v : Byte) : Statement (.wrb1 v) := ⟨rfl, word_of_head .b 1 (by decide) v⟩
theorem wrb2 (v : Byte) : Statement (.wrb2 v) := ⟨rfl, word_of_head .b 2 (by decide) v⟩
theorem wrb3 (v : Byte) : Statement (.wrb3 v) := ⟨rfl, word_of_head .b 3 (by decide) v⟩
theorem wrb4 (v : Byte) : Statement (.wrb4 v) := ⟨rfl, word_of_head .b 4 (by decide) v⟩
theorem wrb5 (v : Byte) : Statement (.wrb5 v) := ⟨rfl, word_of_head .b 5 (by decide) v⟩
theorem wrb6 (v : Byte) : Statement (.wrb6 v) := ⟨rfl, word_of_head .b 6 (by decide) v⟩
theorem wrb7 (v : Byte) : Statement (.wrb7 v) := ⟨rfl, word_of_head .b 7 (by decide) v⟩
theorem wrb8 (v : Byte) : Statement (.wrb8 v) := ⟨rfl, word_of_head .b 8 (by decide) v⟩
theorem wrb9 (v : Byte) : Statement (.wrb9 v) := ⟨rfl, word_of_head .b 9 (by decide) v⟩
theorem wrb10 (v : Byte) : Statement (.wrb10 v) := ⟨rfl, word_of_head .b 10 (by decide) v⟩
theorem wrb11 (v : Byte) : Statement (.wrb11 v) := ⟨rfl, word_of_head .b 11 (by decide) v⟩
theorem wrb12 (v : Byte) : Statement (.wrb12 v) := ⟨rfl, word_of_head .b 12 (by decide) v⟩
theorem wrb13 (v : Byte) : Statement (.wrb13 v) := ⟨rfl, word_of_head .b 13 (by decide) v⟩
theorem wrb14 (v : Byte) : Statement (.wrb14 v) := ⟨rfl, word_of_head .b 14 (by decide) v⟩
theorem wrb15 (v : Byte) : Statement (.wrb15 v) := ⟨rfl, word_of_head .b 15 (by decide) v⟩
theorem step : Statement .step := ⟨rfl, by decide⟩
theorem irq : Statement .irq := ⟨rfl, by decide⟩

end Sys2Proof.Laws.EncodedFields
end

