-- ==== Sys2Proof/Laws/Step.lean ====
section
/-! SUPPORT. What a step can do, when a call asks for an instruction, and the decoder tables, each said once. -/

namespace Sys2Proof.Machine

/-- A step to a next state is idle, refuses the host's next call, or runs its instruction. -/
theorem step_cases {s t : State} (h : step s = .next t) :
    (s.pending = [] ∧ t = s) ∨
    (∃ c rest, s.pending = c :: rest ∧
      ((∃ r, callInstr c = .error r ∧ t = State.refuse r { s with pending := rest }) ∨
       (∃ i, callInstr c = .ok i ∧ exec i { s with pending := rest } = .next t))) := by
  obtain ⟨hp, hn⟩ | ⟨c, rest, hp, hn⟩ := nextCall_cases s
  · simp only [step, hn, State.idle, Host.Outcome.next.injEq] at h
    exact .inl ⟨hp, h.symm⟩
  · refine .inr ⟨c, rest, hp, ?_⟩
    cases hc : callInstr c with
    | error r =>
      simp only [step, hn, hc, Host.Outcome.next.injEq] at h
      exact .inl ⟨r, rfl, h.symm⟩
    | ok i =>
      simp only [step, hn, hc] at h
      exact .inr ⟨i, rfl, h⟩

/-- A word whose low 13 bits are zero has no STEP or IRQ field set. -/
theorem sysFieldsZero_of_low_bits_zero {w : OpWord} (h : w.extractLsb' 0 13 = 0) : sysFieldsZero w = true := by
  have bit_zero : ∀ k, k < 13 → w.getLsbD k = false := fun k hk => by
    have hk' := congrArg (fun x : BitVec 13 => x.getLsbD k) h
    simpa [-BitVec.getLsbD_eq_getElem, hk] using hk'
  have field_zero : ∀ k n, k + n ≤ 13 → w.extractLsb' k n = 0 := fun k n hn =>
    BitVec.eq_of_getLsbD_eq fun j hj => by
      simp only [BitVec.getLsbD_extractLsb', hj, decide_true, Bool.true_and, BitVec.ofNat_eq_ofNat, BitVec.getLsbD_zero]
      exact bit_zero (k + j) (by omega)
  unfold sysFieldsZero chipField indexField dataField
  rw [bit_zero 12 (by omega), field_zero 8 4 (by omega), field_zero 0 8 (by omega)]
  rfl

/-- A word whose must-be-zero fields are zero decodes. -/
theorem decode_of_wellFormed {w : OpWord} (h : wordWellFormed w = true) : ∃ i, decode w = .ok i := by
  simp only [wordWellFormed, Bool.and_eq_true, Bool.not_eq_true'] at h
  obtain ⟨h13, h⟩ := h
  unfold decode reservedBit
  rw [h13]
  cases h15 : w.getLsbD 15 <;> cases h14 : w.getLsbD 14 <;>
    simp only [h15, h14, if_true, Bool.false_eq_true, if_false, Bool.false_or, Bool.true_or, beq_iff_eq] at h ⊢
  · exact ⟨_, if_pos (by simpa [dataField] using h)⟩
  · exact ⟨_, rfl⟩
  · exact ⟨_, if_pos (sysFieldsZero_of_low_bits_zero h)⟩
  · exact ⟨_, if_pos (sysFieldsZero_of_low_bits_zero h)⟩

/-- A well-formed call asks for an instruction. -/
theorem callInstr_of_wellFormed {c : HostCall} (h : c.wellFormed = true) : ∃ i, callInstr c = .ok i := by
  cases c with
  | word w => exact decode_of_wellFormed h
  | read c k => exact ⟨_, dif_pos (by simpa [HostCall.wellFormed] using h)⟩
  | write c k v => exact ⟨_, dif_pos (by simpa [HostCall.wellFormed] using h)⟩

/-- The tables of reads and writes hold, at each index, the instruction of that chip and index. -/
theorem readInstr_fields : ∀ (c : Chip) (k : Index), (readInstr c k).fields = ⟨.read, c, k, 0⟩ := by
  intro c k
  cases c <;> revert k <;> decide

theorem writeInstr_fields (c : Chip) (k : Index) (v : Byte) :
    (writeInstr c k v).fields = ⟨.write, c, k, v⟩ := by
  cases c <;> fin_cases k <;> rfl

end Sys2Proof.Machine
end

