-- ==== Sys2Proof/Tests/Slice0.lean ====
section
/-! SUPPORT. Tests of the model on fixed values, each expected value from the spec's rules or from its vectors
(95_test_vectors.md), and for each claim with hypotheses a witness that they can be met. -/

namespace Sys2Proof.Tests

open Sys2Proof Sys2Proof.Machine

/-! ### Ill-formed terms are refused -/

theorem test_read_with_data_ill_formed : Fields.wellFormed ⟨.read, .a, 3, 0x01⟩ = false := by decide
theorem test_step_on_chip_b_ill_formed : Fields.wellFormed ⟨.step, .b, 0, 0⟩ = false := by decide
theorem test_step_with_index_ill_formed : Fields.wellFormed ⟨.step, .a, 1, 0⟩ = false := by decide
theorem test_irq_on_chip_b_ill_formed : Fields.wellFormed ⟨.irq, .b, 0, 0⟩ = false := by decide
theorem test_irq_with_data_ill_formed : Fields.wellFormed ⟨.irq, .a, 0, 0xFF⟩ = false := by decide
theorem test_read_call_ill_formed : HostCall.wellFormed (.read .b 16) = false := by decide
theorem test_write_call_ill_formed : HostCall.wellFormed (.write .a 16 0) = false := by decide
theorem test_word_ill_formed :
    [0x2000#16, 0x0001, 0x6E82, 0x8001, 0x8100, 0x9000, 0xD000, 0xC0FF].map wordWellFormed = List.replicate 8 false := by
  decide
theorem test_word_well_formed :
    [0x1F00#16, 0x5E82, 0x4FFF, 0x8000, 0xC000].map wordWellFormed = List.replicate 5 true := by decide
theorem test_shared_position_ill_formed :
    PinMap.wellFormed { Params.reference.pinMap with p1Clk := ⟨.a, 1⟩ } = false := by decide
theorem test_same_flag_bit_ill_formed : Params.wellFormed { Params.reference with cbFlagBit := 1 } = false := by decide
theorem test_reference_parameters_well_formed : Params.reference.wellFormed = true := by decide

/-! ### Decoding: a word of every constructor, written out from 30_encoding.md R72 -/

theorem test_decode_reads_of_chip_a :
    [0x0000#16, 0x0100, 0x0200, 0x0300, 0x0400, 0x0500, 0x0600, 0x0700,
      0x0800, 0x0900, 0x0A00, 0x0B00, 0x0C00, 0x0D00, 0x0E00, 0x0F00].map decode =
    [Instr.rda0, .rda1, .rda2, .rda3, .rda4, .rda5, .rda6, .rda7,
      .rda8, .rda9, .rda10, .rda11, .rda12, .rda13, .rda14, .rda15].map .ok := by decide

theorem test_decode_writes_of_chip_a :
    [0x40FD#16, 0x4180, 0x4201, 0x4302, 0x4404, 0x4508, 0x4610, 0x4720,
      0x4840, 0x4955, 0x4AAA, 0x4B0F, 0x4CF0, 0x4D7F, 0x4E82, 0x4FFF].map decode =
    [Instr.wra0 0xFD, .wra1 0x80, .wra2 0x01, .wra3 0x02, .wra4 0x04, .wra5 0x08, .wra6 0x10, .wra7 0x20,
      .wra8 0x40, .wra9 0x55, .wra10 0xAA, .wra11 0x0F, .wra12 0xF0, .wra13 0x7F, .wra14 0x82, .wra15 0xFF].map .ok := by
  decide

theorem test_decode_reads_of_chip_b :
    [0x1000#16, 0x1100, 0x1200, 0x1300, 0x1400, 0x1500, 0x1600, 0x1700,
      0x1800, 0x1900, 0x1A00, 0x1B00, 0x1C00, 0x1D00, 0x1E00, 0x1F00].map decode =
    [Instr.rdb0, .rdb1, .rdb2, .rdb3, .rdb4, .rdb5, .rdb6, .rdb7,
      .rdb8, .rdb9, .rdb10, .rdb11, .rdb12, .rdb13, .rdb14, .rdb15].map .ok := by decide

theorem test_decode_writes_of_chip_b :
    [0x50FE#16, 0x5180, 0x5201, 0x5302, 0x5404, 0x5508, 0x5610, 0x5720,
      0x5840, 0x5955, 0x5AAA, 0x5B0F, 0x5CF0, 0x5D7F, 0x5E82, 0x5FFF].map decode =
    [Instr.wrb0 0xFE, .wrb1 0x80, .wrb2 0x01, .wrb3 0x02, .wrb4 0x04, .wrb5 0x08, .wrb6 0x10, .wrb7 0x20,
      .wrb8 0x40, .wrb9 0x55, .wrb10 0xAA, .wrb11 0x0F, .wrb12 0xF0, .wrb13 0x7F, .wrb14 0x82, .wrb15 0xFF].map .ok := by
  decide

theorem test_decode_step_and_irq : [0x8000#16, 0xC000].map decode = [Instr.step, .irq].map .ok := by decide

/-- The refused words of 95_test_vectors.md L2.6. -/
theorem test_decode_reserved_bit :
    [0x2000#16, 0x3E00, 0x6E82, 0xA000, 0xE000, 0xFFFF].map decode =
      List.replicate 6 (.error .reservedBit) := by decide

theorem test_decode_non_zero_field :
    [0x0001#16, 0x10FF, 0x8001, 0x8100, 0x9000, 0xC0FF, 0xD000].map decode =
      List.replicate 7 (.error .nonZeroField) := by decide

theorem test_table_word : decodeTableWord 16 0x5E82 = some (.wrb14 0x82) := by decide
theorem test_table_word_refused : decodeTableWord 16 0x2000 = none := by decide
theorem test_call_at_the_last_index : callInstr (.read .b 15) = .ok .rdb15 := by decide
theorem test_call_past_the_last_index : callInstr (.write .a 16 0x12) = .error .indexOutOfRange := by decide

/-! ### Meanings, on the reset state with the reference parameters -/

/-- The start state of the spec's vectors. -/
def start : State :=
  State.resetWith Params.reference

/-- The state after an instruction. -/
def after (i : Instr) (s : State) : State :=
  match exec i s with
  | .next t => t
  | _ => s

/-- The start state with the given flags and enables. -/
def startFlags (f e : BitVec 7) : State :=
  { start with chipB := { start.chipB with ifr := f, ier := e } }

/-- The start state with one input sample given. -/
def startLines (l : Lines) : State :=
  { start with inputs := [l] }

/-- All six inputs passive. -/
def allHigh : Lines :=
  ⟨true, true, true, true, true, true⟩

/-- V-A1 to V-A4: the ROM bank keeps the low 3 bits. -/
theorem test_wra0_masks :
    [0x05#8, 0xFF, 0x08, 0xF8].map (fun v => (after (.wra0 v) start).bank.romBank) = [5, 7, 0, 0] := by decide

theorem test_rda0 : (after .rda0 (after (.wra0 0xFD) start)).reply = .byte 0x05 := by decide

/-- V-A5. -/
theorem test_rda1 : (after .rda1 (after (.wra1 0xFF) start)).reply = .byte 0xFF := by decide

/-- V-A8, and the neighbouring slots stay. -/
theorem test_wra2 :
    let t := after (.wra2 0xAB) start
    (after .rda2 t).reply = .byte 0xAB ∧ t.chipA.reg[1] = 0 ∧ t.chipA.reg[3] = 0 := by decide

/-- V-A9: the slot is written and the read is a draw. -/
theorem test_wra4 : (after (.wra4 0xAB) start).chipA.reg[4] = 0xAB := by decide

theorem test_rda4_draws : (after .rda4 start).draws = 1 ∧ (after .rda4 start).chipA = start.chipA := by decide

/-- V-A11, V-A12: chip A has no IFR and no IER. -/
theorem test_rda13 : (after .rda13 (after (.wra13 0x7F) start)).reply = .byte 0x7F := by decide

theorem test_wra14_leaves_ier :
    (after (.wra14 0x82) start).chipB.ier = 0 ∧ (after .rda14 (after (.wra14 0x82) start)).reply = .byte 0x82 := by decide

/-- V-B1: the CA flag is cleared and the CB flag kept. -/
theorem test_rdb1 :
    let s := { startFlags 0x12 0 with chipB := { (startFlags 0x12 0).chipB with rbA := 0x5A } }
    (after .rdb1 s).reply = .byte 0x5A ∧ (after .rdb1 s).chipB.ifr = 0x10 := by decide

/-- V-B2 and V-B4. -/
theorem test_rdb0 :
    (after .rdb0 (startFlags 0x12 0)).chipB.ifr = 0x02 ∧ (after .rdb0 (startFlags 0x6D 0)).chipB.ifr = 0x6D := by decide

/-- V-B5: the readback is the last step's. -/
theorem test_wrb1 :
    let t := after (.wrb1 0xFE) start
    t.chipB.outA = 0xFE ∧ (after .rdb1 t).reply = .byte 0x00 := by decide

/-- The start state with a choice of `PORT_WRITE_CLEARS` and both flags set. -/
def startClears (c : PortWriteClears) : State :=
  { startFlags 0x12 0 with params := { Params.reference with portWriteClears := c } }

/-- V-B6. -/
theorem test_wrb1_clears :
    [PortWriteClears.none, .same, .cross].map (fun c => (after (.wrb1 0) (startClears c)).chipB.ifr) =
      [0x12, 0x10, 0x02] := by decide

/-- V-B7. -/
theorem test_wrb0_clears :
    [PortWriteClears.none, .same, .cross].map (fun c => (after (.wrb0 0) (startClears c)).chipB.ifr) =
      [0x12, 0x02, 0x10] := by decide

/-- V-B8, V-B9. -/
theorem test_wrb2 : (after .rdb2 (after (.wrb2 0x0F) start)).reply = .byte 0x0F := by decide
theorem test_wrb3 : (after .rdb3 (after (.wrb3 0xF0) start)).reply = .byte 0xF0 := by decide

/-- V-B10: chip B index 4 is raw storage. -/
theorem test_wrb4 : (after .rdb4 (after (.wrb4 0x99) start)).reply = .byte 0x99 := by decide

/-- V-B12. -/
theorem test_wrb15 : (after .rdb15 (after (.wrb15 0xFF) start)).reply = .byte 0xFF := by decide

/-- V-B14. -/
theorem test_wrb13 : (after (.wrb13 0xFF) (startFlags 0x12 0)).chipB.ifr = 0x12 := by decide

/-- The IFR reads of L2.4. -/
theorem test_rdb13 :
    [0x00#7, 0x01, 0x02, 0x10, 0x12, 0x40, 0x7F].map (fun f => (after .rdb13 (startFlags f 0)).reply) =
      [Reply.byte 0x00, .byte 0x81, .byte 0x82, .byte 0x90, .byte 0x92, .byte 0xC0, .byte 0xFF] := by decide

/-- V-B13, for the two settled values of `IER_READ_BIT7`. -/
theorem test_rdb14 :
    [IerReadBit7.zero, .one].map (fun b =>
      (after .rdb14 { startFlags 0 0x12 with params := { Params.reference with ierReadBit7 := b } }).reply) =
      [Reply.byte 0x12, .byte 0x92] := by decide

/-- The IER writes of L2.4. -/
theorem test_wrb14 :
    [(0x00#7, 0x82#8), (0x02, 0x90), (0x12, 0x02), (0x12, 0x80), (0x12, 0x00), (0x12, 0x7F), (0x00, 0xFF),
      (0x55, 0xAA), (0x55, 0x2A)].map (fun p => (after (.wrb14 p.2) (startFlags 0 p.1)).chipB.ier) =
      [0x02, 0x12, 0x10, 0x12, 0x12, 0x00, 0x7F, 0x7F, 0x55] := by decide

/-- The IRQ rows of L2.4. -/
theorem test_irq :
    [(0x00#7, 0x7F#7), (0x7F, 0x00), (0x02, 0x02), (0x02, 0x10), (0x40, 0x40), (0x01, 0x7E), (0x55, 0x2A), (0x55, 0x01)].map
        (fun p => (after .irq (startFlags p.1 p.2)).reply) =
      [Reply.bit false, .bit false, .bit true, .bit false, .bit true, .bit false, .bit false, .bit true] := by decide

/-- Rows of L2.2, as ddr, out, in. -/
theorem test_resolve :
    [(0x00#8, 0x55#8, 0xAA#8), (0xFF, 0xFF, 0x55), (0x55, 0x00, 0xFF), (0xAA, 0x55, 0xAA), (0x03, 0xFE, 0xFD),
      (0xF0, 0x0F, 0x3C), (0x81, 0x80, 0x01)].map (fun x => resolve x.2.2 x.2.1 x.1) =
      [⟨0xFF, 0xAA, 0xAA⟩, ⟨0xFF, 0x55, 0xFF⟩, ⟨0xAA, 0xAA, 0xAA⟩, ⟨0x55, 0x00, 0x00⟩, ⟨0xFE, 0xFC, 0xFE⟩,
        ⟨0x0F, 0x0C, 0x0C⟩, ⟨0xFE, 0x00, 0x80⟩] := by decide

/-- L2.5 row 3: both clocks fall in one step, from levels that were high. -/
theorem test_step_both_edges :
    let s := { startLines ⟨false, true, false, true, true, true⟩ with
      chipB := { start.chipB with prevCA := true, prevCB := true } }
    let b := (after .step s).chipB
    b.pinA = 0xFD ∧ b.pinB = 0xFD ∧ b.ifr = 0x12 ∧ b.prevCA = false ∧ b.prevCB = false ∧
      (after .step s).driven = ⟨false, true, false, true, true, true⟩ := by decide

/-- L2.5, the joystick outputs: `ddrA = 0x24`, `outA = 0x04`. -/
theorem test_step_joystick_outputs :
    let s := { startLines allHigh with chipB := { start.chipB with ddrA := 0x24, outA := 0x04 } }
    (after .step s).chipB.pinA = 0xDF ∧ (after .step s).chipB.rbA = 0xDF ∧ (after .step s).chipB.ifr = 0 ∧
      (after .step s).driven = ⟨true, true, true, true, true, false⟩ := by decide

/-- R201 and R203, with the reference map: each joystick data input low by itself, on port A bits 3 and 4. -/
theorem test_step_joystick_inputs :
    (after .step (startLines { allHigh with joyData1 := false })).chipB.pinA = 0xF7 ∧
      (after .step (startLines { allHigh with joyData2 := false })).chipB.pinA = 0xEF := by decide

/-- R201 and R203, with the reference map and every input low: only the lines of the six inputs follow. -/
theorem test_step_all_inputs_low :
    let b := (after .step (startLines ⟨false, false, false, false, false, false⟩)).chipB
    b.pinA = 0xE4 ∧ b.rbA = 0xE4 ∧ b.pinB = 0xFC ∧ b.rbB = 0xFC := by decide

/-! ### One step of the machine -/

theorem test_placed_word_runs : step (start.withFetchWord 16 0x4005) = exec (.wra0 0x05) start := rfl

theorem test_refused_word_marks :
    step (start.withFetchWord 16 0x2000) =
      .next { start with refused := true, reply := .refused .reservedBit } := rfl

/-! ### Witnesses: the hypotheses of each claim can be met together -/

theorem witness_DecodeOfEncodeIsTheInstruction : Instr.wellFormed (.wrb15 0xFF) = true := by decide
theorem witness_DecodedWordIsTheEncoding : decode 0x5FFF#16 = .ok (.wrb15 0xFF) := by decide
theorem witness_CallsByIndex : 16 ≤ 16 ∧ 15 < 16 ∧ 0 < 16 := by decide

theorem witness_StepRunsTheHostsNextInstruction :
    ({ start with pending := [.read .b 15] } : State).pending = HostCall.read .b 15 :: [] ∧
      callInstr (.read .b 15) = .ok .rdb15 := by decide

theorem witness_PlacedWordRunsNext :
    0xC000 < 65536 ∧ decode (BitVec.ofNat 16 0xC000) = .ok .irq := by decide

theorem witness_IdleBlockDoesNothing : start.pending = [] := rfl

theorem witness_RefusedCallOnlySetsTheMark :
    ({ start with pending := [.word 0xFFFF] } : State).pending = HostCall.word 0xFFFF :: [] ∧
      callInstr (.word 0xFFFF) = .error .reservedBit := by decide

theorem witness_OnlyRefusalsTouchTheMark :
    step { start with refused := true } = .next { start with refused := true } ∧
      exec .rda2 start = .next (after .rda2 start) := ⟨rfl, rfl⟩

theorem witness_RawReadsOfChipAReturnTheSlot :
    ((.rda15, 15) : Instr × Index) ∈ ([
      (.rda2, 2), (.rda3, 3), (.rda6, 6), (.rda7, 7), (.rda10, 10),
      (.rda11, 11), (.rda12, 12), (.rda13, 13), (.rda14, 14), (.rda15, 15)] : List (Instr × Index)) := by simp

theorem witness_RawWritesOfChipAStoreTheByte :
    ((.wra15, 15) : (Byte → Instr) × Index) ∈ ([
      (.wra2, 2), (.wra3, 3), (.wra6, 6), (.wra7, 7), (.wra10, 10),
      (.wra11, 11), (.wra12, 12), (.wra13, 13), (.wra14, 14), (.wra15, 15)] : List ((Byte → Instr) × Index)) := by simp
theorem witness_TimerReadsReturnFreeBytes :
    Instr.rda9 ∈ [Instr.rda4, .rda5, .rda8, .rda9] ∧ Instr.wra9 ∈ [Instr.wra4, .wra5, .wra8, .wra9] := by simp
theorem witness_TimerWritesOnlyStoreTheByte :
    ((.wra9, 9) : (Byte → Instr) × Index) ∈ ([
      (.wra4, 4), (.wra5, 5), (.wra8, 8), (.wra9, 9)] : List ((Byte → Instr) × Index)) := by simp
theorem witness_RawReadsOfChipBReturnTheSlot :
    ((.rdb15, 15) : Instr × Index) ∈ ([
      (.rdb4, 4), (.rdb5, 5), (.rdb6, 6), (.rdb7, 7), (.rdb8, 8),
      (.rdb9, 9), (.rdb10, 10), (.rdb11, 11), (.rdb12, 12), (.rdb15, 15)] : List (Instr × Index)) := by simp
theorem witness_RawWritesOfChipBStoreTheByte :
    ((.wrb15, 15) : (Byte → Instr) × Index) ∈ ([
      (.wrb4, 4), (.wrb5, 5), (.wrb6, 6), (.wrb7, 7), (.wrb8, 8),
      (.wrb9, 9), (.wrb10, 10), (.wrb11, 11), (.wrb12, 12), (.wrb15, 15)] : List ((Byte → Instr) × Index)) := by simp
theorem witness_EachRoleIsSampledAtItsPosition :
    start.params.pinMap.wellFormed = true ∧
      (start.params.pinMap.joyData2, start.nextLines.joyData2) ∈ [
        (start.params.pinMap.p0Clk, start.nextLines.p0ClkOut), (start.params.pinMap.p0Data, start.nextLines.p0DataOut),
        (start.params.pinMap.p1Clk, start.nextLines.p1ClkOut), (start.params.pinMap.p1Data, start.nextLines.p1DataOut),
        (start.params.pinMap.joyData1, start.nextLines.joyData1),
        (start.params.pinMap.joyData2, start.nextLines.joyData2),
        (start.params.pinMap.joyLatch, true), (start.params.pinMap.joyClk, true)] ∧
      (⟨.b, 7⟩ : Pos) ∉ start.params.pinMap.positions := ⟨by decide, by simp, by decide⟩

theorem witness_DrivenLinesAreWiredAnd : start.params.pinMap.wellFormed = true := by decide

/-- Port A's and port B's monitored lines were high and the chip pulls both. -/
def pulling : State :=
  { start with chipB := { start.chipB with prevCA := true, prevCB := true, ddrA := 0x02, ddrB := 0x02 } }

theorem witness_SelfTriggeredEdge :
    (pulling.chipB.prevCA = true ∧ pulling.chipB.ddrA.getLsbD pulling.params.caMonBit.val = true ∧
      pulling.chipB.outA.getLsbD pulling.params.caMonBit.val = false) ∧
    (pulling.chipB.prevCB = true ∧ pulling.chipB.ddrB.getLsbD pulling.params.cbMonBit.val = true ∧
      pulling.chipB.outB.getLsbD pulling.params.cbMonBit.val = false) := by decide

theorem witness_NoRetriggerAfterClearWhileLow :
    (startFlags 0x12 0).params.caFlagBit ≠ (startFlags 0x12 0).params.cbFlagBit ∧
      (startFlags 0x12 0).chipB.prevCA = false ∧ (startFlags 0x12 0).chipB.prevCB = false := by decide

theorem witness_FirstTickAfterReset :
    startLines allHigh = { State.resetWith Params.reference with inputs := [allHigh] } ∧
      (startLines allHigh).nextLines = ⟨true, true, true, true, true, true⟩ := ⟨rfl, rfl⟩

theorem witness_InvariantKeptByEveryStep :
    (startFlags 0x12 0).Inv ∧
      step ((startFlags 0x12 0).withFetchWord 16 0x1000) = .next (after .rdb0 (startFlags 0x12 0)) :=
  ⟨by decide, rfl⟩

theorem witness_ParametersNeverChange : step (start.withFetchWord 16 0x1D00) = .next (after .rdb13 start) := rfl

theorem witness_BanksChangeOnlyByChipAWrites :
    exec (.wra0 5) start = .next (after (.wra0 5) start) ∧ (after (.wra0 5) start).bank.romBank ≠ start.bank.romBank ∧
      exec (.wra1 5) start = .next (after (.wra1 5) start) ∧
      (after (.wra1 5) start).bank.ramBank ≠ start.bank.ramBank := ⟨rfl, by decide, rfl, by decide⟩

theorem witness_OnlyAStepChangesTheLines :
    exec (.wrb0 0xFE) start = .next (after (.wrb0 0xFE) start) ∧ Instr.wrb0 0xFE ≠ .step := ⟨rfl, by decide⟩

theorem witness_TheChipsAreDisjoint :
    Instr.onChip .a (.wra15 0xFF) = true ∧ Instr.onChip .a .rdb0 = false ∧ Instr.onChip .a .step = false := by decide

theorem witness_HiddenSlotsAreNeverObserved :
    start.SameButHiddenSlots ((start.setSlotA 4 0x12).setSlotB 14 0x34) ∧
      (start.setSlotA 4 0x12).chipA.reg[4] ≠ start.chipA.reg[4] := ⟨⟨by decide, by decide, rfl⟩, by decide⟩

theorem witness_WritesAreIdempotent : (Instr.fields (.wrb14 0x82)).op = .write := rfl

theorem witness_ReadsAndTheirSideEffects :
    (Instr.fields .rdb13).op = .read ∧ Instr.rdb13 ∉ [Instr.rdb0, .rdb1] ∧
      Instr.rdb0 ∉ [Instr.rda4, .rda5, .rda8, .rda9, .rdb14] := by decide

theorem witness_PortReadBeforeTheNextStepIsOld : Instr.wrb3 ∈ [Instr.wrb0, .wrb1, .wrb2, .wrb3] := by simp

theorem witness_DutifulHostIsNeverRefused :
    ({ start with pending := [.word 0xC000, .read .a 15] } : State).hostKeepsDuty = true ∧
      ({ start with pending := [.word 0x5FFF, .write .b 15 0xFF] } : State).hostKeepsDuty = true ∧
      step { start with pending := [.word 0xC000, .read .a 15] } =
        .next { start with pending := [.read .a 15], reply := .bit false } := ⟨by decide, by decide, rfl⟩

end Sys2Proof.Tests
end

section
/-! PROOFS. What each family of instructions can mean, said once, and O48: each chip's operations commute with
overwriting what belongs to the other. -/

namespace Sys2Proof.Machine

/-! ### The meanings of the instructions -/

/-- What a read or write of chip A can mean. -/
inductive ChipAMeaning : (State → Host.Outcome State Fault Refusal) → Prop
  | readRomBank : ChipAMeaning execRda0
  | readRamBank : ChipAMeaning execRda1
  | readSlot (k : Index) : ChipAMeaning (readRawA k)
  | readTimer : ChipAMeaning readTimer
  | writeRomBank (v : Byte) : ChipAMeaning (execWra0 v)
  | writeRamBank (v : Byte) : ChipAMeaning (execWra1 v)
  | writeSlot (k : Index) (v : Byte) : ChipAMeaning (writeRawA k v)

/-- What a read or write of chip B, STEP or IRQ can mean. -/
inductive ChipBMeaning : (State → Host.Outcome State Fault Refusal) → Prop
  | readPortB : ChipBMeaning execRdb0
  | readPortA : ChipBMeaning execRdb1
  | readDdrB : ChipBMeaning execRdb2
  | readDdrA : ChipBMeaning execRdb3
  | readSlot (k : Index) : ChipBMeaning (readRawB k)
  | readIfr : ChipBMeaning execRdb13
  | readIer : ChipBMeaning execRdb14
  | writePortB (v : Byte) : ChipBMeaning (execWrb0 v)
  | writePortA (v : Byte) : ChipBMeaning (execWrb1 v)
  | writeDdrB (v : Byte) : ChipBMeaning (execWrb2 v)
  | writeDdrA (v : Byte) : ChipBMeaning (execWrb3 v)
  | writeSlot (k : Index) (v : Byte) : ChipBMeaning (writeRawB k v)
  | writeIfr (v : Byte) : ChipBMeaning (execWrb13 v)
  | writeIer (v : Byte) : ChipBMeaning (execWrb14 v)
  | tick : ChipBMeaning execStep
  | poll : ChipBMeaning execIrq

theorem exec_chipAMeaning {i : Instr} (h : i.onChip .a = true) : ChipAMeaning (exec i) := by
  cases i with
  | rda0 => exact .readRomBank
  | rda1 => exact .readRamBank
  | rda2 | rda3 | rda6 | rda7 | rda10 | rda11 | rda12 | rda13 | rda14 | rda15 => exact .readSlot _
  | rda4 | rda5 | rda8 | rda9 => exact .readTimer
  | wra0 v => exact .writeRomBank v
  | wra1 v => exact .writeRamBank v
  | wra2 v | wra3 v | wra4 v | wra5 v | wra6 v | wra7 v | wra8 v | wra9 v | wra10 v | wra11 v | wra12 v | wra13 v
  | wra14 v | wra15 v => exact .writeSlot _ v
  | _ => cases h

theorem exec_chipBMeaning {i : Instr} (h : i.onChip .a = false) : ChipBMeaning (exec i) := by
  cases i with
  | rdb0 => exact .readPortB
  | rdb1 => exact .readPortA
  | rdb2 => exact .readDdrB
  | rdb3 => exact .readDdrA
  | rdb4 | rdb5 | rdb6 | rdb7 | rdb8 | rdb9 | rdb10 | rdb11 | rdb12 | rdb15 => exact .readSlot _
  | rdb13 => exact .readIfr
  | rdb14 => exact .readIer
  | wrb0 v => exact .writePortB v
  | wrb1 v => exact .writePortA v
  | wrb2 v => exact .writeDdrB v
  | wrb3 v => exact .writeDdrA v
  | wrb4 v | wrb5 v | wrb6 v | wrb7 v | wrb8 v | wrb9 v | wrb10 v | wrb11 v | wrb12 v | wrb15 v =>
    exact .writeSlot _ v
  | wrb13 v => exact .writeIfr v
  | wrb14 v => exact .writeIer v
  | step => exact .tick
  | irq => exact .poll
  | _ => cases h

/-! ### Overwriting the other chip's part of the state -/

/-- The state with another chip B and other driven lines. -/
def State.withChipB (b : ChipB) (d : Driven) (s : State) : State :=
  { s with chipB := b, driven := d }

/-- The state with another chip A and other bank values. -/
def State.withChipA (a : ChipA) (k : Bank) (s : State) : State :=
  { s with chipA := a, bank := k }

@[simp] theorem State.withChipA_params (a : ChipA) (k : Bank) (s : State) : (s.withChipA a k).params = s.params := rfl
@[simp] theorem State.withChipA_inputs (a : ChipA) (k : Bank) (s : State) : (s.withChipA a k).inputs = s.inputs := rfl

/-- The meaning `m` completes, and neither reads nor writes what `f` overwrites: to run it after the overwriting is to
overwrite after running it. -/
def CommutesWith (f : State → State) (m : State → Host.Outcome State Fault Refusal) : Prop :=
  ∀ s, ∃ t, m s = .next t ∧ m (f s) = .next (f t)

/-- No meaning of a chip A operation names a field of chip B or a driven line. -/
theorem ChipAMeaning.commutesWith_withChipB {m : State → Host.Outcome State Fault Refusal} (h : ChipAMeaning m)
    (b : ChipB) (d : Driven) : CommutesWith (State.withChipB b d) m := by
  intro s
  cases h with
  | readRomBank | readRamBank | readSlot | readTimer | writeRomBank | writeRamBank | writeSlot =>
    exact ⟨_, rfl, rfl⟩

section
variable (a : ChipA) (k : Bank) (s : State)

theorem State.clearPortFlag_withChipA (p : Port) :
    (s.withChipA a k).clearPortFlag p = (s.clearPortFlag p).withChipA a k := by
  cases p <;> rfl

theorem State.portWriteClear_withChipA (p : Port) :
    (s.withChipA a k).portWriteClear p = (s.portWriteClear p).withChipA a k := by
  unfold State.portWriteClear
  rw [State.withChipA_params]
  cases s.params.portWriteClears with
  | none => rfl
  | same => exact State.clearPortFlag_withChipA a k s p
  | cross => exact State.clearPortFlag_withChipA a k s (otherPort p)

theorem ierBit7_withChipA : ierBit7 (s.withChipA a k) = ((ierBit7 s).1, (ierBit7 s).2.withChipA a k) := by
  unfold ierBit7
  rw [State.withChipA_params]
  cases s.params.ierReadBit7 with
  | zero | one | draw => rfl

theorem sampleLines_withChipA :
    sampleLines (s.withChipA a k) = ((sampleLines s).1, (sampleLines s).2.withChipA a k) := by
  unfold sampleLines
  rw [State.withChipA_inputs]
  cases s.inputs with
  | nil | cons => rfl

theorem tick_withChipA (l : Lines) : tick l (s.withChipA a k) = (tick l s).withChipA a k := rfl

end

/-- The meanings of the other operations name no field of chip A and no bank. -/
theorem ChipBMeaning.commutesWith_withChipA {m : State → Host.Outcome State Fault Refusal} (h : ChipBMeaning m)
    (a : ChipA) (k : Bank) : CommutesWith (State.withChipA a k) m := by
  intro s
  cases h with
  | readPortB | readPortA | readDdrB | readDdrA | readSlot | readIfr | writeDdrB | writeDdrA | writeSlot | writeIfr
  | writeIer | poll => exact ⟨_, rfl, rfl⟩
  | readIer => exact ⟨_, rfl, by rw [execRdb14, ierBit7_withChipA]; rfl⟩
  | writePortB v => exact ⟨_, rfl, congrArg done ((s.setOutB v).portWriteClear_withChipA a k .b)⟩
  | writePortA v => exact ⟨_, rfl, congrArg done ((s.setOutA v).portWriteClear_withChipA a k .a)⟩
  | tick => exact ⟨_, rfl, by rw [execStep, sampleLines_withChipA, tick_withChipA]; rfl⟩

/-- Settles O48: each operation's meaning commutes with overwriting what belongs to the other chip. -/
theorem theChipsAreDisjoint : Obligations.TheChipsAreDisjoint :=
  ⟨fun _ onA s b d => (exec_chipAMeaning onA).commutesWith_withChipB b d s,
    fun _ offA s a k => (exec_chipBMeaning offA).commutesWith_withChipA a k s⟩

end Sys2Proof.Machine
end

section
/-! PROOFS. The register file, index by index: O13 to O17, O20 to O23 and O25 to O29. What a store into a slot, the
clearing of a flag, a read of IFR or IER and a write of IER do bit by bit is said once; the instructions' statements
follow from it. -/

namespace Sys2Proof.Machine

/-! ### Stores into the raw slots -/

/-- A write of a slot of chip A stores the byte there and changes nothing else. -/
theorem writeRawA_stores (k : Index) (v : Byte) (s : State) :
    ∃ t, writeRawA k v s = .next t ∧
      t.chipA.reg[k] = v ∧ (∀ j : Index, j ≠ k → t.chipA.reg[j] = s.chipA.reg[j]) ∧
      t = { s with chipA := t.chipA, reply := .nothing } :=
  ⟨_, rfl, (slotA_setSlotA k k v s).trans (if_pos rfl),
    fun j other => (slotA_setSlotA j k v s).trans (if_neg other), rfl⟩

/-- A write of a slot of chip B stores the byte there and changes nothing else. -/
theorem writeRawB_stores (k : Index) (v : Byte) (s : State) :
    ∃ t, writeRawB k v s = .next t ∧
      t.chipB.reg[k] = v ∧ (∀ j : Index, j ≠ k → t.chipB.reg[j] = s.chipB.reg[j]) ∧
      t = { s with chipB := { s.chipB with reg := t.chipB.reg }, reply := .nothing } :=
  ⟨_, rfl, (slotB_setSlotB k k v s).trans (if_pos rfl),
    fun j other => (slotB_setSlotB j k v s).trans (if_neg other), rfl⟩

/-! ### The flags a port access keeps -/

theorem clearFlag_keeps_others (k j : Fin 7) (f : BitVec 7) :
    (clearFlag k f).getLsbD j.val = (f.getLsbD j.val && decide (j ≠ k)) := by
  rw [clearFlag_getLsbD, decide_not]

/-- The IFR bit of the flag tied to a port (42_interrupt.md R180). -/
def portFlagBit (q : Params) : Port → Fin 7
  | .a => q.caFlagBit
  | .b => q.cbFlagBit

theorem clearPortFlag_eq_setIfr (p : Port) (s : State) :
    s.clearPortFlag p = s.setIfr (clearFlag (portFlagBit s.params p) s.chipB.ifr) := by
  cases p with
  | a | b => rfl

/-- A write of port `p`'s register leaves flag `k` alone, by `PORT_WRITE_CLEARS` (40_register_file.md R148, R149). -/
def portWriteKeeps (q : Params) (p : Port) (k : Fin 7) : Bool :=
  match q.portWriteClears with
  | .none => true
  | .same => decide (k ≠ portFlagBit q p)
  | .cross => decide (k ≠ portFlagBit q (otherPort p))

theorem portWriteClear_eq_setIfr (p : Port) (s : State) :
    ∃ f, s.portWriteClear p = s.setIfr f ∧
      ∀ k : Fin 7, f.getLsbD k.val = (s.chipB.ifr.getLsbD k.val && portWriteKeeps s.params p k) := by
  unfold portWriteKeeps
  obtain ⟨hc, he⟩ | ⟨hc, he⟩ | ⟨hc, he⟩ := portWriteClear_cases p s <;> rw [he, hc]
  · exact ⟨s.chipB.ifr, rfl, fun k => (Bool.and_true _).symm⟩
  · exact ⟨_, clearPortFlag_eq_setIfr p s, fun k => clearFlag_keeps_others _ k _⟩
  · exact ⟨_, clearPortFlag_eq_setIfr (otherPort p) s, fun k => clearFlag_keeps_others _ k _⟩

/-! ### Reads and writes of IFR and IER, bit by bit -/

theorem ierRead_getLsbD_low (e : BitVec 7) (b7 : Bool) (k : Fin 7) :
    (ierRead e b7).getLsbD k.val = e.getLsbD k.val := by
  have below : k.val < 8 := by omega
  simp only [ierRead, BitVec.getLsbD_or, BitVec.getLsbD_setWidth, BitVec.getLsbD_shiftLeft, below, k.isLt, decide_true,
    Bool.not_true, Bool.and_false, Bool.false_and, Bool.true_and, Bool.or_false]

theorem ierRead_setWidth (e : BitVec 7) (b7 : Bool) : (ierRead e b7).setWidth 7 = e := by
  refine BitVec.eq_of_getLsbD_eq fun j hj => ?_
  rw [BitVec.getLsbD_setWidth, decide_eq_true hj, Bool.true_and]
  exact ierRead_getLsbD_low e b7 ⟨j, hj⟩

theorem ierRead_getLsbD_seven (e : BitVec 7) (b7 : Bool) : (ierRead e b7).getLsbD 7 = b7 := by
  cases b7 <;> simp [ierRead]

/-- A read of IFR has the form of a read of IER, with the summary bit in bit 7. -/
theorem ifrRead_eq_ierRead (f : BitVec 7) : ifrRead f = ierRead f (f != 0#7) := rfl

theorem ierWrite_getLsbD (e : BitVec 7) (v : Byte) (k : Fin 7) :
    (ierWrite e v).getLsbD k.val =
      if v.getLsbD 7 then e.getLsbD k.val || v.getLsbD k.val else e.getLsbD k.val && !v.getLsbD k.val := by
  have selected : (v.setWidth 7).getLsbD k.val = v.getLsbD k.val := by
    rw [BitVec.getLsbD_setWidth, decide_eq_true k.isLt, Bool.true_and]
  unfold ierWrite
  split
  · rw [BitVec.getLsbD_or, selected]
  · rw [BitVec.getLsbD_and, BitVec.getLsbD_not, decide_eq_true k.isLt, Bool.true_and, selected]

/-! ### The statements of tier 2 -/

/-- Settles O17: each of the ten writes is a store into its slot. -/
theorem rawWritesOfChipAStoreTheByte : Obligations.RawWritesOfChipAStoreTheByte := by
  intro f k raw v s
  have run : exec (f v) s = writeRawA k v s := by fin_cases raw <;> rfl
  rw [run]
  exact writeRawA_stores k v s

/-- Settles O20: both reads clear one flag and leave the others. -/
theorem portReadsClearTheirOwnFlag : Obligations.PortReadsClearTheirOwnFlag := fun s =>
  ⟨⟨_, rfl, fun k => clearFlag_keeps_others s.params.cbFlagBit k s.chipB.ifr, rfl⟩,
    ⟨_, rfl, fun k => clearFlag_keeps_others s.params.caFlagBit k s.chipB.ifr, rfl⟩⟩

/-- Settles O23: the value read is IFR with the summary bit above it. -/
theorem flagReadHasTheSummaryBit : Obligations.FlagReadHasTheSummaryBit := fun s => by
  refine ⟨ifrRead s.chipB.ifr, rfl, ierRead_setWidth s.chipB.ifr _, ?_⟩
  rw [ifrRead_eq_ierRead, ierRead_getLsbD_seven]
  exact bne_iff_ne

/-- Settles O25: each write sets its latch, then clears what `PORT_WRITE_CLEARS` says of its port. -/
theorem portWritesSetTheLatch : Obligations.PortWritesSetTheLatch := by
  intro v s
  obtain ⟨f, clearB, keptB⟩ := portWriteClear_eq_setIfr .b (s.setOutB v)
  obtain ⟨g, clearA, keptA⟩ := portWriteClear_eq_setIfr .a (s.setOutA v)
  exact ⟨⟨_, congrArg done clearB, keptB, rfl⟩, ⟨_, congrArg done clearA, keptA, rfl⟩⟩

/-- Settles O27: each of the ten writes is a store into its slot. -/
theorem rawWritesOfChipBStoreTheByte : Obligations.RawWritesOfChipBStoreTheByte := by
  intro f k raw v s
  have run : exec (f v) s = writeRawB k v s := by fin_cases raw <;> rfl
  rw [run]
  exact writeRawB_stores k v s

/-- Settles O29: the enables after the write are those of `ierWrite`. -/
theorem enableWriteSetsOrClears : Obligations.EnableWriteSetsOrClears := fun v s =>
  ⟨_, rfl, ierWrite_getLsbD s.chipB.ier v, rfl⟩

/-! ### The statements of tier 1 -/

/-- Settles O13: zero extension to 8 bits keeps the ROM bank's value and has no bit above it. -/
theorem bankReadsReturnTheSelector : Obligations.BankReadsReturnTheSelector := fun s => by
  refine ⟨⟨s.bank.romBank.setWidth 8, rfl, BitVec.toNat_setWidth_of_le (by decide), fun j hj => ?_⟩, rfl⟩
  rw [BitVec.getLsbD_setWidth, BitVec.getLsbD_of_ge _ j hj, Bool.and_false]

/-- Settles O14: the low 3 bits of a byte are its value modulo 8. -/
theorem romBankWriteKeepsThreeBits : Obligations.RomBankWriteKeepsThreeBits := fun v _ =>
  ⟨_, rfl, BitVec.extractLsb'_toNat 0 3 v, rfl⟩

/-- Settles O15: by the meaning of `WRA1`. -/
theorem ramBankWriteKeepsTheByte : Obligations.RamBankWriteKeepsTheByte := fun v s =>
  done_eq (s.setRamBank v)

/-- Settles O16: each of the ten reads returns its slot. -/
theorem rawReadsOfChipAReturnTheSlot : Obligations.RawReadsOfChipAReturnTheSlot := by
  intro i k raw s
  have run : exec i s = readRawA k s := by fin_cases raw <;> rfl
  exact run.trans (returnByte_eq (s.slotA k) s)

/-- Settles O21: by the meanings of `RDB2` and `RDB3`. -/
theorem directionReadsReturnTheRegister : Obligations.DirectionReadsReturnTheRegister := fun s =>
  ⟨returnByte_eq s.chipB.ddrB s, returnByte_eq s.chipB.ddrA s⟩

/-- Settles O22: each of the ten reads returns its slot. -/
theorem rawReadsOfChipBReturnTheSlot : Obligations.RawReadsOfChipBReturnTheSlot := by
  intro i k raw s
  have run : exec i s = readRawB k s := by fin_cases raw <;> rfl
  exact run.trans (returnByte_eq (s.slotB k) s)

/-- Settles O26: by the meanings of `WRB2` and `WRB3`. -/
theorem directionWritesSetTheRegister : Obligations.DirectionWritesSetTheRegister := fun v s =>
  ⟨done_eq (s.setDdrB v), done_eq (s.setDdrA v)⟩

/-- Settles O28: the write is ignored. -/
theorem flagWriteIsIgnored : Obligations.FlagWriteIsIgnored := fun _ s =>
  done_eq s

end Sys2Proof.Machine
end

section
/-! PROOFS. Open-collector resolution (41_pin_state.md R170 to R173), line by line: O31. -/

namespace Sys2Proof.Machine

theorem complement_getLsbD (x : Byte) (i : Fin 8) : (~~~x).getLsbD i.val = !x.getLsbD i.val := by
  rw [BitVec.getLsbD_not, decide_eq_true i.isLt, Bool.true_and]

/-- A byte that takes the lines of `x` where `d` is set and those of `y` elsewhere. -/
theorem byteSelect_getLsbD (d x y : Byte) (i : Fin 8) :
    ((d &&& x) ||| (~~~d &&& y)).getLsbD i.val = if d.getLsbD i.val then x.getLsbD i.val else y.getLsbD i.val := by
  rw [BitVec.getLsbD_or, BitVec.getLsbD_and, BitVec.getLsbD_and, complement_getLsbD]
  cases d.getLsbD i.val with
  | true | false => simp

/-- Wired-AND: the two complements under the complement are De Morgan's (R173). -/
theorem resolve_pinstate (inp out ddr : Byte) :
    (resolve inp out ddr).pinstate = inp &&& (resolve inp out ddr).driving := by
  change ~~~(~~~inp ||| ~~~(resolve inp out ddr).driving) = _
  rw [BitVec.not_or, BitVec.not_not, BitVec.not_not]

/-- A line is pulled low exactly on an output latched 0 (R171). -/
theorem resolve_driving_getLsbD (inp out ddr : Byte) (i : Fin 8) :
    (resolve inp out ddr).driving.getLsbD i.val = !(ddr.getLsbD i.val && !out.getLsbD i.val) := by
  have formula : (resolve inp out ddr).driving = (ddr &&& out) ||| ~~~ddr := rfl
  rw [formula, BitVec.getLsbD_or, BitVec.getLsbD_and, complement_getLsbD]
  cases ddr.getLsbD i.val with
  | true | false => simp

theorem resolve_pinstate_getLsbD (inp out ddr : Byte) (i : Fin 8) :
    (resolve inp out ddr).pinstate.getLsbD i.val =
      (inp.getLsbD i.val && (resolve inp out ddr).driving.getLsbD i.val) := by
  rw [resolve_pinstate, BitVec.getLsbD_and]

theorem resolve_readback_getLsbD (inp out ddr : Byte) (i : Fin 8) :
    (resolve inp out ddr).readback.getLsbD i.val =
      if ddr.getLsbD i.val then (resolve inp out ddr).driving.getLsbD i.val
      else (resolve inp out ddr).pinstate.getLsbD i.val :=
  byteSelect_getLsbD ddr _ _ i

/-- Settles O31: the three results at one line. -/
theorem resolveLineByLine : Obligations.ResolveLineByLine := fun inp out ddr i =>
  ⟨resolve_driving_getLsbD inp out ddr i, resolve_pinstate_getLsbD inp out ddr i,
    resolve_readback_getLsbD inp out ddr i⟩

end Sys2Proof.Machine
end

section
/-! PROOFS. The interrupt flags, enables and output (42_interrupt.md R180, R182, R183): O30, O44 and O45. Which
instructions keep IFR and which keep IER is said once each, and what STEP does to the flags is said bit by bit. -/

namespace Sys2Proof.Machine

/-! ### The interrupt output -/

theorem ne_zero_iff_exists_bit (f : BitVec 7) : f ≠ 0#7 ↔ ∃ k : Fin 7, f.getLsbD k.val = true := by
  constructor
  · intro nonzero
    by_contra noBit
    push Not at noBit
    refine nonzero (BitVec.eq_of_getLsbD_eq fun j hj => ?_)
    rw [BitVec.getLsbD_zero]
    exact Bool.eq_false_iff.mpr (noBit ⟨j, hj⟩)
  · rintro ⟨k, bit⟩ rfl
    rw [BitVec.getLsbD_zero] at bit
    cases bit

theorem irqOut_iff (f e : BitVec 7) :
    irqOut f e = true ↔ ∃ k : Fin 7, f.getLsbD k.val = true ∧ e.getLsbD k.val = true := by
  simp only [irqOut, bne_iff_ne, ne_zero_iff_exists_bit, BitVec.getLsbD_and, Bool.and_eq_true]

/-- Settles O30: the bit returned is `irqOut` of the two registers. -/
theorem interruptOutputIsAnyEnabledFlag : Obligations.InterruptOutputIsAnyEnabledFlag := fun s =>
  ⟨_, rfl, irqOut_iff s.chipB.ifr s.chipB.ier⟩

/-! ### What the shared operations leave of chip B -/

theorem ierBit7_chipB (s : State) : (ierBit7 s).2.chipB = s.chipB := by
  obtain ⟨-, run⟩ | ⟨-, run⟩ | ⟨-, run⟩ := ierBit7_cases s <;> rw [run]
  rfl

theorem portWriteClear_ier (p : Port) (s : State) : (s.portWriteClear p).chipB.ier = s.chipB.ier := by
  obtain ⟨f, clear, -⟩ := portWriteClear_eq_setIfr p s
  rw [clear]
  rfl

/-- Sampling the inputs of a tick changes at most the inputs left and the draw counter. -/
theorem sampleLines_frame (s : State) : ∃ ls n, (sampleLines s).2 = { s with inputs := ls, draws := n } := by
  obtain ⟨-, run⟩ | ⟨_, _, -, run⟩ := sampleLines_cases s <;> rw [run] <;> exact ⟨_, _, rfl⟩

theorem sampleLines_chipB (s : State) : (sampleLines s).2.chipB = s.chipB := by
  obtain ⟨ls, n, sampled⟩ := sampleLines_frame s
  rw [sampled]

/-! ### The flags after each instruction -/

/-- The instruction is one of the five that touch IFR: a read or write of a port register, or STEP (42_interrupt.md
R180). -/
def touchesFlags : Instr → Bool
  | .rdb0 | .rdb1 | .wrb0 _ | .wrb1 _ | .step => true
  | _ => false

theorem exec_keeps_ifr {i : Instr} (quiet : touchesFlags i = false) (s : State) :
    ∃ t, exec i s = .next t ∧ t.chipB.ifr = s.chipB.ifr := by
  cases i with
  | rdb0 | rdb1 | wrb0 | wrb1 | step => cases quiet
  | rdb14 => exact ⟨_, rfl, congrArg ChipB.ifr (ierBit7_chipB s)⟩
  | _ => exact ⟨_, rfl, rfl⟩

theorem tick_ifr_getLsbD (l : Lines) (s : State) (k : Fin 7) :
    (tick l s).chipB.ifr.getLsbD k.val =
      (s.chipB.ifr.getLsbD k.val ||
       (decide (k = s.params.caFlagBit) && s.chipB.prevCA && !(tick l s).chipB.prevCA) ||
       (decide (k = s.params.cbFlagBit) && s.chipB.prevCB && !(tick l s).chipB.prevCB)) := by
  rw [tick_ifr, detectEdge_getLsbD, detectEdge_getLsbD]

/-- A STEP adds the flag of each monitored line that fell and keeps every other flag (43_step.md R205). -/
theorem execStep_ifr_getLsbD (s : State) :
    ∃ t, exec .step s = .next t ∧
      ∀ k : Fin 7, t.chipB.ifr.getLsbD k.val =
        (s.chipB.ifr.getLsbD k.val ||
         (decide (k = s.params.caFlagBit) && s.chipB.prevCA && !t.chipB.prevCA) ||
         (decide (k = s.params.cbFlagBit) && s.chipB.prevCB && !t.chipB.prevCB)) := by
  obtain ⟨ls, n, sampled⟩ := sampleLines_frame s
  have run := congrArg (fun u => done (tick (sampleLines s).1 u)) sampled
  exact ⟨_, run, tick_ifr_getLsbD (sampleLines s).1 { s with inputs := ls, draws := n }⟩

/-- Settles O44: a STEP sets flags by its edges, the four port accesses clear them as their own statements say, and no
other instruction touches IFR. -/
theorem flagTransitions : Obligations.FlagTransitions := by
  intro i s
  have keeps := fun quiet => exec_keeps_ifr (i := i) quiet s
  cases i with
  | step =>
    obtain ⟨t, run, flag⟩ := execStep_ifr_getLsbD s
    exact ⟨t, run, fun k => by rw [flag k, Bool.or_assoc, Bool.or_comm]; simp [and_assoc]⟩
  | rdb0 =>
    obtain ⟨t, run, flag, -⟩ := (portReadsClearTheirOwnFlag s).1
    exact ⟨t, run, fun k => by rw [flag k]; simp⟩
  | rdb1 =>
    obtain ⟨t, run, flag, -⟩ := (portReadsClearTheirOwnFlag s).2
    exact ⟨t, run, fun k => by rw [flag k]; simp⟩
  | wrb0 v =>
    obtain ⟨t, run, flag, -⟩ := (portWritesSetTheLatch v s).1
    exact ⟨t, run, fun k => by rw [flag k]; cases s.params.portWriteClears <;> simp⟩
  | wrb1 v =>
    obtain ⟨t, run, flag, -⟩ := (portWritesSetTheLatch v s).2
    exact ⟨t, run, fun k => by rw [flag k]; cases s.params.portWriteClears <;> simp⟩
  | _ =>
    obtain ⟨t, run, kept⟩ := keeps rfl
    exact ⟨t, run, fun k => by rw [kept]; simp⟩

/-! ### The enables after each instruction -/

theorem tick_ier (l : Lines) (s : State) : (tick l s).chipB.ier = s.chipB.ier := rfl

theorem exec_keeps_ier {i : Instr} (other : ∀ v, i ≠ .wrb14 v) (s : State) :
    ∃ t, exec i s = .next t ∧ t.chipB.ier = s.chipB.ier := by
  cases i with
  | wrb14 v => exact absurd rfl (other v)
  | rdb14 => exact ⟨_, rfl, congrArg ChipB.ier (ierBit7_chipB s)⟩
  | wrb0 v => exact ⟨_, rfl, portWriteClear_ier .b (s.setOutB v)⟩
  | wrb1 v => exact ⟨_, rfl, portWriteClear_ier .a (s.setOutA v)⟩
  | step => exact ⟨_, rfl, (tick_ier _ _).trans (congrArg ChipB.ier (sampleLines_chipB s))⟩
  | _ => exact ⟨_, rfl, rfl⟩

/-- Settles O45: WRB14 by its own statement; every other instruction keeps IER whole. -/
theorem enablesChangeOnlyByTheirWrite : Obligations.EnablesChangeOnlyByTheirWrite := by
  intro i s
  have keeps := fun other => exec_keeps_ier (i := i) other s
  cases i with
  | wrb14 v =>
    obtain ⟨t, run, enables, -⟩ := enableWriteSetsOrClears v s
    exact ⟨t, run, enables⟩
  | _ =>
    obtain ⟨t, run, kept⟩ := keeps nofun
    exact ⟨t, run, fun k => by rw [kept]⟩

end Sys2Proof.Machine
end

section
/-! PROOFS. The tick's output lines and falling edges (43_step.md R204, R205): O34 and O36. -/

namespace Sys2Proof.Machine

/-! ### The output lines -/

theorem sampleLines_params (s : State) : (sampleLines s).2.params = s.params := by
  obtain ⟨ls, n, sampled⟩ := sampleLines_frame s
  rw [sampled]

/-- A STEP drives the output lines of its own pin map from the pin states it stores (R204). -/
theorem execStep_driven (s : State) :
    ∃ t, exec .step s = .next t ∧ t.driven = drivenLines s.params.pinMap t.chipB.pinA t.chipB.pinB := by
  have lines := tick_driven (sampleLines s).1 (sampleLines s).2
  rw [sampleLines_params] at lines
  exact ⟨_, rfl, lines⟩

/-- Settles O34: the lines are `drivenLines` of the stored pin states, each its `levelAt` of a position. -/
theorem stepDrivesTheResolvedLevels : Obligations.StepDrivesTheResolvedLevels := execStep_driven

/-! ### The falling edges -/

/-- Settles O36: the flags of a STEP bit by bit, from the two edge detections in turn (`tick_ifr`). -/
theorem fallingEdgeSetsItsFlag : Obligations.FallingEdgeSetsItsFlag := execStep_ifr_getLsbD

end Sys2Proof.Machine
end

section
/-! PROOFS. No operation is fallible (60_exceptions.md R220, R221): O11. -/

namespace Sys2Proof.Machine

/-! ### One step, by what the host's next call is -/

section
variable {s s' : State} {c : HostCall}

theorem step_of_idle (idle : nextCall s = none) : step s = .next s := by
  simp only [step, idle, State.idle]

theorem step_of_refused {r : RefuseReason} (issued : nextCall s = some (c, s')) (noMeaning : callInstr c = .error r) :
    step s = .next (s'.refuse r) := by
  simp only [step, issued, noMeaning]

theorem step_of_instr {i : Instr} (issued : nextCall s = some (c, s')) (asks : callInstr c = .ok i) :
    step s = exec i s' := by
  simp only [step, issued, asks]

end

/-! ### Every operation completes -/

theorem CommutesWith.completes {f : State → State} {m : State → Host.Outcome State Fault Refusal}
    (h : CommutesWith f m) (s : State) : ∃ t, m s = .next t := by
  obtain ⟨t, run, -⟩ := h s
  exact ⟨t, run⟩

theorem exec_completes (i : Instr) (s : State) : ∃ t, exec i s = .next t := by
  cases chip : i.onChip .a with
  | true => exact ((exec_chipAMeaning chip).commutesWith_withChipB s.chipB s.driven).completes s
  | false => exact ((exec_chipBMeaning chip).commutesWith_withChipA s.chipA s.bank).completes s

theorem step_completes (s : State) : ∃ t, step s = .next t := by
  obtain ⟨-, idle⟩ | ⟨c, rest, -, issued⟩ := nextCall_cases s
  · exact ⟨s, step_of_idle idle⟩
  · cases call : callInstr c with
    | error r => exact ⟨_, step_of_refused issued call⟩
    | ok i => rw [step_of_instr issued call]; exact exec_completes i _

/-- Settles O11: each of the 66 meanings completes; a step is idle, a refusal, or one of them. -/
theorem noOperationIsFallible : Obligations.NoOperationIsFallible := ⟨exec_completes, step_completes⟩

end Sys2Proof.Machine
end

section
/-! PROOFS. The encoding of operations (30_encoding.md): O1 to O5. A word is its reserved bit and its fields, a set of
fields is a word with the reserved bit clear, and an instruction is its well-formed fields; decoding is said once in
these terms (`decode_eq`). -/

namespace Sys2Proof

/-! ### Instructions and their fields -/

/-- The instruction that the fields name, whatever their must-be-zero fields hold. -/
def Fields.instr (f : Fields) : Instr :=
  match f.op with
  | .read => readInstr f.chip f.index
  | .write => writeInstr f.chip f.index f.data
  | .step => .step
  | .irq => .irq

theorem instr_fields (i : Instr) : i.fields.instr = i := by
  cases i with
  | _ => rfl

theorem fields_instr {f : Fields} (wf : f.wellFormed = true) : f.instr.fields = f := by
  obtain ⟨op, c, k, v⟩ := f
  cases op with
  | read =>
    have noData : v = 0 := by simpa [Fields.wellFormed] using wf
    rw [noData]
    exact Machine.readInstr_fields c k
  | write => exact Machine.writeInstr_fields c k v
  | step | irq =>
    obtain ⟨⟨rfl, rfl⟩, rfl⟩ : (c = .a ∧ k = 0) ∧ v = 0 := by simpa [Fields.wellFormed] using wf
    rfl

open Laws.EncodedFields in
/-- The lemmas of each constructor together: every instruction is well formed, and its word is that of its fields. -/
theorem encodedFields : ∀ i : Instr, Statement i
  | .rda0 => rda0 | .rda1 => rda1 | .rda2 => rda2 | .rda3 => rda3 | .rda4 => rda4 | .rda5 => rda5
  | .rda6 => rda6 | .rda7 => rda7 | .rda8 => rda8 | .rda9 => rda9 | .rda10 => rda10 | .rda11 => rda11
  | .rda12 => rda12 | .rda13 => rda13 | .rda14 => rda14 | .rda15 => rda15
  | .wra0 v => wra0 v | .wra1 v => wra1 v | .wra2 v => wra2 v | .wra3 v => wra3 v | .wra4 v => wra4 v
  | .wra5 v => wra5 v | .wra6 v => wra6 v | .wra7 v => wra7 v | .wra8 v => wra8 v | .wra9 v => wra9 v
  | .wra10 v => wra10 v | .wra11 v => wra11 v | .wra12 v => wra12 v | .wra13 v => wra13 v
  | .wra14 v => wra14 v | .wra15 v => wra15 v
  | .rdb0 => rdb0 | .rdb1 => rdb1 | .rdb2 => rdb2 | .rdb3 => rdb3 | .rdb4 => rdb4 | .rdb5 => rdb5
  | .rdb6 => rdb6 | .rdb7 => rdb7 | .rdb8 => rdb8 | .rdb9 => rdb9 | .rdb10 => rdb10 | .rdb11 => rdb11
  | .rdb12 => rdb12 | .rdb13 => rdb13 | .rdb14 => rdb14 | .rdb15 => rdb15
  | .wrb0 v => wrb0 v | .wrb1 v => wrb1 v | .wrb2 v => wrb2 v | .wrb3 v => wrb3 v | .wrb4 v => wrb4 v
  | .wrb5 v => wrb5 v | .wrb6 v => wrb6 v | .wrb7 v => wrb7 v | .wrb8 v => wrb8 v | .wrb9 v => wrb9 v
  | .wrb10 v => wrb10 v | .wrb11 v => wrb11 v | .wrb12 v => wrb12 v | .wrb13 v => wrb13 v
  | .wrb14 v => wrb14 v | .wrb15 v => wrb15 v
  | .step => step
  | .irq => irq

/-! ### Words and their fields -/

/-- The operation in `W[15:14]` (30_encoding.md R71). -/
def opField (w : OpWord) : Op :=
  match w.getLsbD 15, w.getLsbD 14 with
  | false, false => .read
  | false, true => .write
  | true, false => .step
  | true, true => .irq

/-- The fields of a word at the places 30_encoding.md R71 gives them. -/
def wordFields (w : OpWord) : Fields :=
  ⟨opField w, chipField w, indexField w, dataField w⟩

/-- Decoding: the reserved bit is tested first, then the must-be-zero fields; the rest is the instruction of the word's
fields. -/
theorem decode_eq (w : OpWord) :
    decode w =
      if reservedBit w then .error .reservedBit
      else if (wordFields w).wellFormed then .ok (wordFields w).instr
      else .error .nonZeroField := by
  unfold decode wordFields opField
  cases w.getLsbD 15 <;> cases w.getLsbD 14 <;> rfl

theorem index_testBit_of_ge (k : Index) {j : Nat} (hj : 4 ≤ j) : k.val.testBit j = false :=
  Nat.testBit_lt_two_pow (lt_of_lt_of_le k.isLt (Nat.pow_le_pow_right (n := 2) (by decide) hj))

section
variable (o : Op) (c : Chip) (k : Index) (v : Byte)

theorem word_getLsbD_data {j : Nat} (hj : j < 8) : (Fields.word ⟨o, c, k, v⟩).getLsbD j = v.getLsbD j := by
  have h12 : j < 12 := by omega
  have h14 : j < 14 := by omega
  have h16 : j < 16 := by omega
  simp only [Fields.word, BitVec.getLsbD_or, BitVec.getLsbD_shiftLeft, BitVec.getLsbD_setWidth, hj, h12, h14, h16,
    decide_true, Bool.not_true, Bool.and_false, Bool.false_and, Bool.true_and, Bool.false_or]

theorem word_getLsbD_index {j : Nat} (hj : j < 4) :
    (Fields.word ⟨o, c, k, v⟩).getLsbD (8 + j) = k.val.testBit j := by
  have h12 : 8 + j < 12 := by omega
  have h14 : 8 + j < 14 := by omega
  have h16 : 8 + j < 16 := by omega
  have h16' : j < 16 := by omega
  simp [Fields.word, h12, h14, h16, h16', -BitVec.getLsbD_eq_getElem, BitVec.getLsbD_shiftLeft, BitVec.getLsbD_ofNat,
    BitVec.getLsbD_of_ge]

/-- Above the index, only the operation and the chip have bits. -/
theorem word_getLsbD_head {j : Nat} (hj : 4 ≤ j) :
    (Fields.word ⟨o, c, k, v⟩).getLsbD (8 + j) = (o.bits <<< 14 ||| c.bit <<< 12).getLsbD (8 + j) := by
  simp [Fields.word, -BitVec.getLsbD_eq_getElem, BitVec.getLsbD_shiftLeft, BitVec.getLsbD_ofNat, BitVec.getLsbD_of_ge,
    index_testBit_of_ge k hj]

theorem word_getLsbD_12 : (Fields.word ⟨o, c, k, v⟩).getLsbD 12 = (c == .b) := by
  rw [word_getLsbD_head o c k v (j := 4) (by decide)]
  cases o <;> cases c <;> decide

theorem word_getLsbD_13 : (Fields.word ⟨o, c, k, v⟩).getLsbD 13 = false := by
  rw [word_getLsbD_head o c k v (j := 5) (by decide)]
  cases o <;> cases c <;> decide

theorem word_getLsbD_14 : (Fields.word ⟨o, c, k, v⟩).getLsbD 14 = (o == .write || o == .irq) := by
  rw [word_getLsbD_head o c k v (j := 6) (by decide)]
  cases o <;> cases c <;> decide

theorem word_getLsbD_15 : (Fields.word ⟨o, c, k, v⟩).getLsbD 15 = (o == .step || o == .irq) := by
  rw [word_getLsbD_head o c k v (j := 7) (by decide)]
  cases o <;> cases c <;> decide

theorem opField_word : opField (Fields.word ⟨o, c, k, v⟩) = o := by
  rw [opField, word_getLsbD_15, word_getLsbD_14]
  cases o with
  | _ => rfl

theorem chipField_word : chipField (Fields.word ⟨o, c, k, v⟩) = c := by
  rw [chipField, word_getLsbD_12]
  cases c with
  | _ => rfl

theorem indexField_word : indexField (Fields.word ⟨o, c, k, v⟩) = k := by
  have bits : (Fields.word ⟨o, c, k, v⟩).extractLsb' 8 4 = BitVec.ofFin k :=
    BitVec.eq_of_getLsbD_eq fun j hj => by
      rw [BitVec.getLsbD_extractLsb', decide_eq_true hj, Bool.true_and, word_getLsbD_index o c k v hj,
        BitVec.getLsbD_ofFin]
  exact congrArg BitVec.toFin bits

theorem dataField_word : dataField (Fields.word ⟨o, c, k, v⟩) = v :=
  BitVec.eq_of_getLsbD_eq fun j hj => by
    rw [dataField, BitVec.getLsbD_extractLsb', decide_eq_true hj, Bool.true_and, Nat.zero_add,
      word_getLsbD_data o c k v hj]

end

theorem reservedBit_word (f : Fields) : reservedBit f.word = false :=
  word_getLsbD_13 f.op f.chip f.index f.data

theorem wordFields_word (f : Fields) : wordFields f.word = f := by
  obtain ⟨o, c, k, v⟩ := f
  rw [wordFields, opField_word, chipField_word, indexField_word, dataField_word]

/-- A word whose reserved bit is 0 is the word of its fields: no other bit is ignored. -/
theorem word_wordFields {w : OpWord} (noReserved : reservedBit w = false) : (wordFields w).word = w := by
  refine BitVec.eq_of_getLsbD_eq fun j hj => ?_
  rw [wordFields]
  by_cases inData : j < 8
  · rw [word_getLsbD_data _ _ _ _ inData, dataField, BitVec.getLsbD_extractLsb', decide_eq_true inData, Bool.true_and,
      Nat.zero_add]
  obtain ⟨j, rfl⟩ := Nat.exists_eq_add_of_le (Nat.not_lt.mp inData)
  by_cases inIndex : j < 4
  · rw [word_getLsbD_index _ _ _ _ inIndex]
    change (w.extractLsb' 8 4).getLsbD j = _
    rw [BitVec.getLsbD_extractLsb', decide_eq_true inIndex, Bool.true_and]
  have inHead : j = 4 ∨ j = 5 ∨ j = 6 ∨ j = 7 := by omega
  obtain rfl | rfl | rfl | rfl := inHead
  · rw [word_getLsbD_12, chipField]
    cases w.getLsbD 12 <;> rfl
  · rw [word_getLsbD_13]
    exact noReserved.symm
  · rw [word_getLsbD_14, opField]
    cases w.getLsbD 15 <;> cases w.getLsbD 14 <;> rfl
  · rw [word_getLsbD_15, opField]
    cases w.getLsbD 15 <;> cases w.getLsbD 14 <;> rfl

/-! ### Decoding and encoding -/

theorem decode_word {f : Fields} (wf : f.wellFormed = true) : decode f.word = .ok f.instr := by
  rw [decode_eq, reservedBit_word, wordFields_word, wf]
  rfl

theorem decode_ok_iff (w : OpWord) (i : Instr) :
    decode w = .ok i ↔ reservedBit w = false ∧ (wordFields w).wellFormed = true ∧ (wordFields w).instr = i := by
  rw [decode_eq]
  cases reservedBit w <;> cases (wordFields w).wellFormed <;> simp

/-- Settles O1: an instruction's word is the word of its fields, and the fields name the instruction. -/
theorem decodeOfEncodeIsTheInstruction : Obligations.DecodeOfEncodeIsTheInstruction := by
  intro i wf
  obtain ⟨-, ofFields⟩ := encodedFields i
  rw [ofFields, decode_word wf, instr_fields]

/-- Settles O2: a word that decodes is the word of its fields, which are those of the instruction. -/
theorem decodedWordIsTheEncoding : Obligations.DecodedWordIsTheEncoding := by
  intro w i decoded
  obtain ⟨noReserved, wf, rfl⟩ := (decode_ok_iff w i).mp decoded
  obtain ⟨instrWf, ofFields⟩ := encodedFields (wordFields w).instr
  rw [fields_instr wf, word_wordFields noReserved] at ofFields
  exact ⟨ofFields.symm, instrWf⟩

/-! ### Refused words -/

theorem decode_reservedBit_iff (w : OpWord) : decode w = .error .reservedBit ↔ reservedBit w = true := by
  rw [decode_eq]
  cases reservedBit w <;> cases (wordFields w).wellFormed <;> simp

theorem decode_nonZeroField_iff (w : OpWord) :
    decode w = .error .nonZeroField ↔ reservedBit w = false ∧ (wordFields w).wellFormed = false := by
  rw [decode_eq]
  cases reservedBit w <;> cases (wordFields w).wellFormed <;> simp

theorem decode_ne_indexOutOfRange (w : OpWord) : decode w ≠ .error .indexOutOfRange := by
  rw [decode_eq]
  cases reservedBit w <;> cases (wordFields w).wellFormed <;> simp

theorem extract_op_eq_zero_iff (w : OpWord) :
    w.extractLsb' 14 2 = 0b00#2 ↔ w.getLsbD 15 = false ∧ w.getLsbD 14 = false := by
  refine ⟨fun zero => ?_, fun ⟨h15, h14⟩ => BitVec.eq_of_getLsbD_eq fun j hj => ?_⟩
  · have bit := fun j => congrArg (fun x : BitVec 2 => x.getLsbD j) zero
    exact ⟨by simpa using bit 1, by simpa using bit 0⟩
  · have zeroOrOne : j = 0 ∨ j = 1 := by omega
    rw [BitVec.getLsbD_extractLsb', BitVec.getLsbD_zero]
    obtain rfl | rfl := zeroOrOne
    · rw [h14, Bool.and_false]
    · rw [h15, Bool.and_false]

theorem sysFieldsZero_iff {w : OpWord} (noReserved : reservedBit w = false) :
    sysFieldsZero w = true ↔ w.extractLsb' 0 13 = 0 := by
  refine ⟨fun zero => ?_, Machine.sysFieldsZero_of_low_bits_zero⟩
  obtain ⟨⟨chipA, index0⟩, data0⟩ : (chipField w = .a ∧ indexField w = 0) ∧ dataField w = 0 := by
    simpa [sysFieldsZero] using zero
  rw [← word_wordFields noReserved, wordFields, chipA, index0, data0]
  cases opField w <;> decide

theorem wordFields_ill_formed_iff {w : OpWord} (noReserved : reservedBit w = false) :
    (wordFields w).wellFormed = false ↔
      (w.extractLsb' 14 2 = 0b00#2 ∧ w.extractLsb' 0 8 ≠ 0) ∨ (w.getLsbD 15 = true ∧ w.extractLsb' 0 13 ≠ 0) := by
  rw [extract_op_eq_zero_iff, ne_eq (w.extractLsb' 0 13), ← sysFieldsZero_iff noReserved]
  unfold Fields.wellFormed wordFields opField
  cases w.getLsbD 15 <;> cases w.getLsbD 14 <;> simp [sysFieldsZero, dataField]

/-- Settles O3: the two reasons are the two tests of `decode_eq`, and no other is given. -/
theorem refusedWordsAndTheirReasons : Obligations.RefusedWordsAndTheirReasons := by
  refine fun w => ⟨decode_reservedBit_iff w, ?_, decode_ne_indexOutOfRange w⟩
  rw [decode_nonZeroField_iff]
  exact and_congr_right wordFields_ill_formed_iff

/-- Settles O4: each word is the encoding of its instruction or has the bit that refuses it. -/
theorem handWrittenWordsDecode : Obligations.HandWrittenWordsDecode := by
  unfold Obligations.HandWrittenWordsDecode
  decide

/-- Settles O5: by the tables of reads and writes. -/
theorem callsByIndex : Obligations.CallsByIndex := fun c n v =>
  ⟨fun above => ⟨dif_neg (Nat.not_lt.mpr above), dif_neg (Nat.not_lt.mpr above)⟩,
    fun h => ⟨⟨_, dif_pos h, Machine.readInstr_fields c ⟨n, h⟩⟩, ⟨_, dif_pos h, Machine.writeInstr_fields c ⟨n, h⟩ v⟩⟩⟩

end Sys2Proof
end

section
/-! PROOFS. Resolution in closed form and the tick, position by position (41_pin_state.md, 43_step.md): O32, O33, O35,
O37, O38 and O54. What STEP leaves is named (`State.afterStep`); the level and the readback of a line after it are said once
for every position and every pin map. -/

namespace Sys2Proof.Machine

/-! ### The closed forms of `Resolve` -/

theorem byte_ext {x y : Byte} (h : ∀ i : Fin 8, x.getLsbD i.val = y.getLsbD i.val) : x = y :=
  BitVec.eq_of_getLsbD_eq fun j hj => h ⟨j, hj⟩

section
variable (inp out ddr : Byte)

theorem resolve_driving_eq : (resolve inp out ddr).driving = out ||| ~~~ddr := by
  refine byte_ext fun i => ?_
  rw [resolve_driving_getLsbD, BitVec.getLsbD_or, complement_getLsbD, Bool.not_and, Bool.not_not, Bool.or_comm]

/-- On an output the chip drives its latch; on an input it drives nothing, so the resolved level is the external one. -/
theorem resolve_readback_eq : (resolve inp out ddr).readback = (ddr &&& out) ||| (~~~ddr &&& inp) := by
  refine byte_ext fun i => ?_
  rw [resolve_readback_getLsbD, resolve_pinstate_getLsbD, resolve_driving_getLsbD, byteSelect_getLsbD]
  cases ddr.getLsbD i.val with
  | true | false => simp

end

/-- Settles O32: the three results in turn. -/
theorem resolveClosedForms : Obligations.ResolveClosedForms := fun inp out ddr => by
  rw [← resolve_driving_eq inp out ddr, ← resolve_readback_eq inp out ddr, ← resolve_pinstate inp out ddr]

/-! ### The state a STEP leaves -/

theorem sampleLines_eq (s : State) :
    sampleLines s =
      (s.nextLines,
        { s with inputs := s.inputs.tail, draws := if s.inputs = [] then s.draws + 1 else s.draws }) := by
  obtain ⟨_, _, _, _, _, _, _, _, inputs, _⟩ := s
  cases inputs with
  | nil | cons => rfl

/-- The state after a STEP: the next input levels are taken, and the tick runs on them. -/
def State.afterStep (s : State) : State :=
  (tick s.nextLines
    { s with inputs := s.inputs.tail, draws := if s.inputs = [] then s.draws + 1 else s.draws }).setReply .nothing

theorem exec_step_eq (s : State) : exec .step s = .next s.afterStep :=
  congrArg (fun sampled : Lines × State => done (tick sampled.1 sampled.2)) (sampleLines_eq s)

/-- The external level of a position at the next tick (43_step.md R203). -/
def State.levelIn (s : State) (p : Pos) : Bool :=
  roleLevel s.nextLines (roleAt s.params.pinMap p)

section
variable (m : PinMap) (l : Lines) (p : Port) (out ddr : Byte) (b : Fin 8)

theorem port_pinstate_getLsbD :
    (resolve (inVector m l p) out ddr).pinstate.getLsbD b.val =
      (roleLevel l (roleAt m ⟨p, b⟩) && !(ddr.getLsbD b.val && !out.getLsbD b.val)) := by
  rw [resolve_pinstate_getLsbD, inVector_getLsbD, resolve_driving_getLsbD]

theorem port_readback_getLsbD :
    (resolve (inVector m l p) out ddr).readback.getLsbD b.val =
      if ddr.getLsbD b.val then out.getLsbD b.val else roleLevel l (roleAt m ⟨p, b⟩) := by
  rw [resolve_readback_eq, byteSelect_getLsbD, inVector_getLsbD]

end

/-- Wired-AND at every position: a line is high exactly when neither side pulls it low. -/
theorem afterStep_pinAt (s : State) (p : Pos) : s.afterStep.pinAt p = (s.levelIn p && s.passiveAt p) := by
  obtain ⟨port, b⟩ := p
  cases port with
  | a => exact port_pinstate_getLsbD s.params.pinMap s.nextLines .a s.chipB.outA s.chipB.ddrA b
  | b => exact port_pinstate_getLsbD s.params.pinMap s.nextLines .b s.chipB.outB s.chipB.ddrB b

theorem afterStep_readbackAt (s : State) (p : Pos) :
    s.afterStep.readbackAt p = if s.outputAt p then s.latchAt p else s.levelIn p := by
  obtain ⟨port, b⟩ := p
  cases port with
  | a => exact port_readback_getLsbD s.params.pinMap s.nextLines .a s.chipB.outA s.chipB.ddrA b
  | b => exact port_readback_getLsbD s.params.pinMap s.nextLines .b s.chipB.outB s.chipB.ddrB b

theorem afterStep_prevCA (s : State) : s.afterStep.chipB.prevCA = s.afterStep.pinAt ⟨.a, s.params.caMonBit⟩ := rfl

theorem afterStep_prevCB (s : State) : s.afterStep.chipB.prevCB = s.afterStep.pinAt ⟨.b, s.params.cbMonBit⟩ := rfl

theorem afterStep_ifr_getLsbD (s : State) (k : Fin 7) :
    s.afterStep.chipB.ifr.getLsbD k.val =
      (s.chipB.ifr.getLsbD k.val ||
       (decide (k = s.params.caFlagBit) && s.chipB.prevCA && !s.afterStep.chipB.prevCA) ||
       (decide (k = s.params.cbFlagBit) && s.chipB.prevCB && !s.afterStep.chipB.prevCB)) :=
  tick_ifr_getLsbD _ _ k

theorem afterStep_driven (s : State) :
    s.afterStep.driven =
      { p0ClkIn := s.afterStep.pinAt s.params.pinMap.p0Clk, p0DataIn := s.afterStep.pinAt s.params.pinMap.p0Data
        p1ClkIn := s.afterStep.pinAt s.params.pinMap.p1Clk, p1DataIn := s.afterStep.pinAt s.params.pinMap.p1Data
        joyLatch := s.afterStep.pinAt s.params.pinMap.joyLatch
        joyClock := s.afterStep.pinAt s.params.pinMap.joyClk } := rfl

theorem afterStep_frame (s : State) :
    s.afterStep = { s with
      chipB := { s.chipB with
        pinA := s.afterStep.chipB.pinA, pinB := s.afterStep.chipB.pinB
        rbA := s.afterStep.chipB.rbA, rbB := s.afterStep.chipB.rbB
        ifr := s.afterStep.chipB.ifr, prevCA := s.afterStep.chipB.prevCA, prevCB := s.afterStep.chipB.prevCB }
      driven := s.afterStep.driven, reply := .nothing, inputs := s.afterStep.inputs, draws := s.afterStep.draws } := rfl

/-- Settles O33: both ports' lines position by position, and the frame of the tick. -/
theorem stepResolvesBothPorts : Obligations.StepResolvesBothPorts := fun s =>
  ⟨s.afterStep, exec_step_eq s,
    fun b => ⟨afterStep_pinAt s ⟨.a, b⟩, afterStep_pinAt s ⟨.b, b⟩, afterStep_readbackAt s ⟨.a, b⟩,
      afterStep_readbackAt s ⟨.b, b⟩⟩,
    afterStep_prevCA s, afterStep_prevCB s, rfl, rfl, afterStep_frame s⟩

/-! ### The role of each position -/

/-- With no shared position, the map finds each role at its own position. -/
theorem map_roleAt_positions {m : PinMap} (wf : m.wellFormed = true) :
    m.positions.map (roleAt m) =
      [.p0Clk, .p0Data, .p1Clk, .p1Data, .joyData1, .joyData2, .joyLatch, .joyClk] := by
  have distinct : m.positions.reverse.Nodup := List.nodup_reverse.mpr (of_decide_eq_true wf)
  simp only [PinMap.positions, List.reverse_cons, List.reverse_nil, List.nil_append, List.cons_append,
    List.nodup_cons, List.mem_cons, not_or] at distinct
  simp [PinMap.positions, roleAt, distinct]

theorem roleAt_of_notMem {m : PinMap} {p : Pos} (other : p ∉ m.positions) : roleAt m p = .high := by
  simp only [PinMap.positions, List.mem_cons, List.not_mem_nil, or_false, not_or] at other
  simp [roleAt, other]

/-- The eight positions with the level each samples: its role's own input, or 1. -/
def State.sampledLevels (s : State) : List (Pos × Bool) :=
  [(s.params.pinMap.p0Clk, s.nextLines.p0ClkOut), (s.params.pinMap.p0Data, s.nextLines.p0DataOut),
    (s.params.pinMap.p1Clk, s.nextLines.p1ClkOut), (s.params.pinMap.p1Data, s.nextLines.p1DataOut),
    (s.params.pinMap.joyData1, s.nextLines.joyData1), (s.params.pinMap.joyData2, s.nextLines.joyData2),
    (s.params.pinMap.joyLatch, true), (s.params.pinMap.joyClk, true)]

theorem levelIn_of_mem_sampledLevels {s : State} (wf : s.params.pinMap.wellFormed = true) :
    ∀ entry ∈ s.sampledLevels, s.levelIn entry.1 = entry.2 := by
  have roles := map_roleAt_positions wf
  simp only [PinMap.positions, List.map_cons, List.map_nil, List.cons.injEq, and_true] at roles
  simp [State.sampledLevels, State.levelIn, roles, roleLevel]

theorem levelIn_of_notMem {s : State} {p : Pos} (other : p ∉ s.params.pinMap.positions) : s.levelIn p = true := by
  rw [State.levelIn, roleAt_of_notMem other]
  rfl

/-- Settles O54: the level and the readback at every position, with the external level its role gives it. -/
theorem eachRoleIsSampledAtItsPosition : Obligations.EachRoleIsSampledAtItsPosition := by
  refine fun s wf => ⟨s.afterStep, exec_step_eq s, fun p level named => ?_, fun p other => ?_⟩
  · have external : s.levelIn p = level := levelIn_of_mem_sampledLevels wf (p, level) named
    rw [← external]
    exact ⟨afterStep_pinAt s p, afterStep_readbackAt s p⟩
  · rw [afterStep_pinAt, afterStep_readbackAt, levelIn_of_notMem other, Bool.true_and]
    exact ⟨rfl, rfl⟩

/-- Settles O35: each driven line is the resolved level of its role's position. -/
theorem drivenLinesAreWiredAnd : Obligations.DrivenLinesAreWiredAnd := by
  intro s wf
  have level := levelIn_of_mem_sampledLevels wf
  simp only [State.sampledLevels, List.forall_mem_cons] at level
  obtain ⟨p0Clk, p0Data, p1Clk, p1Data, -, -, joyLatch, joyClk, -⟩ := level
  refine ⟨s.afterStep, exec_step_eq s, ?_⟩
  rw [afterStep_driven]
  simp only [afterStep_pinAt, p0Clk, p0Data, p1Clk, p1Data, joyLatch, joyClk, Bool.true_and]

/-! ### Edges -/

/-- A line the chip pulls low is low after the step, whatever the inputs are. -/
theorem afterStep_pinAt_of_pulled {s : State} {p : Pos} (output : s.outputAt p = true) (latchLow : s.latchAt p = false) :
    s.afterStep.pinAt p = false := by
  rw [afterStep_pinAt, State.passiveAt, output, latchLow]
  exact Bool.and_false _

/-- Settles O37: the pulled line is low after the step, so it fell. -/
theorem selfTriggeredEdge : Obligations.SelfTriggeredEdge := by
  refine fun s => ⟨fun wasHigh output latchLow => ?_, fun wasHigh output latchLow => ?_⟩ <;>
    refine ⟨s.afterStep, exec_step_eq s, ?_⟩
  · have low : s.afterStep.chipB.prevCA = false := afterStep_pinAt_of_pulled (p := ⟨.a, _⟩) output latchLow
    rw [afterStep_ifr_getLsbD, wasHigh, low]
    simp
  · have low : s.afterStep.chipB.prevCB = false := afterStep_pinAt_of_pulled (p := ⟨.b, _⟩) output latchLow
    rw [afterStep_ifr_getLsbD, wasHigh, low]
    simp

/-- A flag that is clear stays clear over a STEP when no line that sets it was high. -/
theorem afterStep_flag_stays_clear {s : State} {k : Fin 7} (clear : s.chipB.ifr.getLsbD k.val = false)
    (lowA : k = s.params.caFlagBit → s.chipB.prevCA = false) (lowB : k = s.params.cbFlagBit → s.chipB.prevCB = false) :
    s.afterStep.chipB.ifr.getLsbD k.val = false := by
  rw [afterStep_ifr_getLsbD, clear]
  simp +contextual [lowA, lowB]

/-- The flag that `clearFlag` clears is clear. -/
theorem clearFlag_getLsbD_self (k : Fin 7) (f : BitVec 7) : (clearFlag k f).getLsbD k.val = false := by
  rw [clearFlag_getLsbD, decide_eq_true rfl, Bool.not_true, Bool.and_false]

/-- Settles O38: the port read clears the flag and leaves the line's last level low, so the step sees no edge. -/
theorem noRetriggerAfterClearWhileLow : Obligations.NoRetriggerAfterClearWhileLow := by
  refine fun s distinct => ⟨fun wasLow => ?_, fun wasLow => ?_⟩ <;> refine ⟨_, _, rfl, exec_step_eq _, ?_⟩
  · exact afterStep_flag_stays_clear (clearFlag_getLsbD_self s.params.caFlagBit s.chipB.ifr) (fun _ => wasLow)
      (fun same => absurd same distinct)
  · exact afterStep_flag_stays_clear (clearFlag_getLsbD_self s.params.cbFlagBit s.chipB.ifr)
      (fun same => absurd same.symm distinct) (fun _ => wasLow)

end Sys2Proof.Machine
end

section
/-! PROOFS. Reset and the first tick after it (10_state.md section 7, 70_reset_and_hazards.md section 1): O39, O40 and
O41. -/

namespace Sys2Proof.Machine

/-! ### The reset state -/

/-- Settles O39: every slot is one of 16 zeros, and the machine's own parameters are admitted ones. -/
theorem resetValues : Obligations.ResetValues :=
  ⟨fun _ => ⟨fun k => ⟨Vector.getElem_replicate k.isLt, Vector.getElem_replicate k.isLt⟩, rfl⟩,
    Config.params, config_params_wellFormed, rfl⟩

/-- A state without a set flag has legal flags. -/
theorem flagsLegal_of_ifr_zero {s : State} (noFlag : s.chipB.ifr = 0) : s.FlagsLegal := by
  intro k set
  rw [noFlag, BitVec.ofNat_eq_ofNat, BitVec.getLsbD_zero] at set
  cases set

/-- Settles O41: the machine's parameters are admitted, and no flag is set. -/
theorem invariantAtReset : Obligations.InvariantAtReset :=
  ⟨config_params_wellFormed, flagsLegal_of_ifr_zero rfl⟩

/-! ### The first tick -/

theorem irqOut_zero (e : BitVec 7) : irqOut 0 e = false := by
  rw [irqOut, BitVec.ofNat_eq_ofNat, BitVec.zero_and]
  rfl

/-- Without an enabled flag a poll returns 0. -/
theorem exec_irq_of_ifr_zero {s : State} (noFlag : s.chipB.ifr = 0) :
    exec .irq s = .next { s with reply := .bit false } := by
  change returnBit (irqOut s.chipB.ifr s.chipB.ier) s = _
  rw [noFlag, irqOut_zero]
  rfl

theorem exec_rdb13_of_ifr_zero {s : State} (noFlag : s.chipB.ifr = 0) :
    exec .rdb13 s = .next { s with reply := .byte 0 } := by
  change returnByte (ifrRead s.chipB.ifr) s = _
  rw [noFlag]
  rfl

/-- A step whose monitored lines were both low sets no flag. -/
theorem afterStep_ifr_of_low {s : State} (lowA : s.chipB.prevCA = false) (lowB : s.chipB.prevCB = false) :
    s.afterStep.chipB.ifr = s.chipB.ifr := by
  refine BitVec.eq_of_getLsbD_eq fun j hj => ?_
  rw [afterStep_ifr_getLsbD s ⟨j, hj⟩, lowA, lowB]
  simp

/-- All six inputs passive: every position samples a high level, whatever its role. -/
theorem roleLevel_of_passive (r : Role) : roleLevel ⟨true, true, true, true, true, true⟩ r = true := by
  cases r with
  | _ => rfl

theorem byte_eq_ones {x : Byte} (h : ∀ i : Fin 8, x.getLsbD i.val = true) : x = 0xFF :=
  byte_ext fun i => (h i).trans (by revert i; decide)

/-- After reset every line is an input. -/
theorem resetWith_outputAt (q : Params) (p : Pos) : (State.resetWith q).outputAt p = false := by
  obtain ⟨port, b⟩ := p
  cases port with
  | a | b => exact BitVec.getLsbD_zero

section
variable {s : State} (input : ∀ p, s.outputAt p = false) (passive : s.nextLines = ⟨true, true, true, true, true, true⟩)
include input passive

theorem afterStep_pinAt_of_passive (p : Pos) : s.afterStep.pinAt p = true := by
  rw [afterStep_pinAt, State.levelIn, passive, roleLevel_of_passive, State.passiveAt, input]
  rfl

theorem afterStep_readbackAt_of_passive (p : Pos) : s.afterStep.readbackAt p = true := by
  rw [afterStep_readbackAt, input, State.levelIn, passive, roleLevel_of_passive]
  rfl

end

/-- Settles O40: after reset the edge history is low, so the tick sees no edge; every line is an input, so with passive
inputs every level is high. -/
theorem firstTickAfterReset : Obligations.FirstTickAfterReset := by
  intro q ls s reset
  have clear : s.chipB.ifr = 0 := by rw [reset]; rfl
  have lowA : s.chipB.prevCA = false := by rw [reset]; rfl
  have lowB : s.chipB.prevCB = false := by rw [reset]; rfl
  have input : ∀ p, s.outputAt p = false := by rw [reset]; exact resetWith_outputAt q
  have noFlag : s.afterStep.chipB.ifr = 0 := (afterStep_ifr_of_low lowA lowB).trans clear
  refine ⟨exec_irq_of_ifr_zero clear, s.afterStep, exec_step_eq s, noFlag, exec_irq_of_ifr_zero noFlag,
    exec_rdb13_of_ifr_zero noFlag, fun passive => ?_⟩
  have pin := afterStep_pinAt_of_passive input passive
  have readback := afterStep_readbackAt_of_passive input passive
  refine ⟨byte_eq_ones fun b => pin ⟨.a, b⟩, byte_eq_ones fun b => pin ⟨.b, b⟩, byte_eq_ones fun b => readback ⟨.a, b⟩,
    byte_eq_ones fun b => readback ⟨.b, b⟩, pin ⟨.a, _⟩, pin ⟨.b, _⟩, ?_⟩
  rw [afterStep_driven]
  simp only [pin]

end Sys2Proof.Machine
end

section
/-! PROOFS. What each instruction leaves unchanged, said once (`exec_frame`), and what follows from it for every step:
O6 to O10, O24, O42, O43, O46, O47 and O53. The instructions whose meaning branches on the parameters have their next
state written out first. -/

namespace Sys2Proof.Machine

/-! ### The next states of RDB14, WRB0 and WRB1 -/

/-- Bit 7 of a read of IER and the number of draws after it, by `IER_READ_BIT7` (40_register_file.md R146). -/
def ierBit7Draw (m : IerReadBit7) (draws : Nat) : Bool × Nat :=
  match m with
  | .zero => (false, draws)
  | .one => (true, draws)
  | .draw => (Config.freeBit draws, draws + 1)

theorem ierBit7_eq (s : State) :
    ierBit7 s =
      ((ierBit7Draw s.params.ierReadBit7 s.draws).1,
        { s with draws := (ierBit7Draw s.params.ierReadBit7 s.draws).2 }) := by
  obtain ⟨choice, run⟩ | ⟨choice, run⟩ | ⟨choice, run⟩ := ierBit7_cases s <;> rw [run, choice] <;> rfl

theorem exec_rdb14_eq (s : State) :
    exec .rdb14 s = .next { s with
      reply := .byte (ierRead s.chipB.ier (ierBit7Draw s.params.ierReadBit7 s.draws).1)
      draws := (ierBit7Draw s.params.ierReadBit7 s.draws).2 } :=
  congrArg (fun drawn : Bool × State => returnByte (ierRead s.chipB.ier drawn.1) drawn.2) (ierBit7_eq s)

/-- The flags after a write of port `p`'s register, by `PORT_WRITE_CLEARS` (40_register_file.md R148, R149). -/
def portWriteIfr (q : Params) (p : Port) (f : BitVec 7) : BitVec 7 :=
  match q.portWriteClears with
  | .none => f
  | .same => clearFlag (portFlagBit q p) f
  | .cross => clearFlag (portFlagBit q (otherPort p)) f

theorem portWriteClear_eq (p : Port) (s : State) :
    s.portWriteClear p = s.setIfr (portWriteIfr s.params p s.chipB.ifr) := by
  unfold portWriteIfr
  obtain ⟨choice, run⟩ | ⟨choice, run⟩ | ⟨choice, run⟩ := portWriteClear_cases p s <;> rw [run, choice]
  · rfl
  · exact clearPortFlag_eq_setIfr p s
  · exact clearPortFlag_eq_setIfr (otherPort p) s

theorem exec_wrb0_eq (v : Byte) (s : State) :
    exec (.wrb0 v) s = .next { s with
      chipB := { s.chipB with outB := v, ifr := portWriteIfr s.params .b s.chipB.ifr }, reply := .nothing } :=
  congrArg done (portWriteClear_eq .b (s.setOutB v))

theorem exec_wrb1_eq (v : Byte) (s : State) :
    exec (.wrb1 v) s = .next { s with
      chipB := { s.chipB with outA := v, ifr := portWriteIfr s.params .a s.chipB.ifr }, reply := .nothing } :=
  congrArg done (portWriteClear_eq .a (s.setOutA v))

/-- Settles O24: the enables below the bit that `IER_READ_BIT7` says. -/
theorem enableReadByParameter : Obligations.EnableReadByParameter := by
  refine fun s => ⟨_, _, exec_rdb14_eq s, ierRead_setWidth _ _, rfl, ?_⟩
  rw [ierRead_getLsbD_seven]
  cases s.params.ierReadBit7 with
  | zero | one | draw => exact ⟨rfl, rfl⟩

/-! ### What each instruction leaves unchanged -/

/-- What only a step changes: pin states, readbacks, edge history and the driven lines. -/
def State.tickFields (s : State) : Byte × Byte × Byte × Byte × Bool × Bool × Driven :=
  (s.chipB.pinA, s.chipB.pinB, s.chipB.rbA, s.chipB.rbB, s.chipB.prevCA, s.chipB.prevCB, s.driven)

/-- What instruction `i` leaves as it was, from `s` to `t`. -/
structure ExecFrame (i : Instr) (s t : State) : Prop where
  params : t.params = s.params
  refused : t.refused = s.refused
  pending : t.pending = s.pending
  tickFields : i ≠ .step → t.tickFields = s.tickFields
  romBank : (∀ v, i ≠ .wra0 v) → t.bank.romBank = s.bank.romBank
  ramBank : (∀ v, i ≠ .wra1 v) → t.bank.ramBank = s.bank.ramBank

theorem exec_frame (i : Instr) (s : State) : ∃ t, exec i s = .next t ∧ ExecFrame i s t := by
  cases i with
  | step => exact ⟨_, exec_step_eq s, rfl, rfl, rfl, fun other => absurd rfl other, fun _ => rfl, fun _ => rfl⟩
  | wra0 v => exact ⟨_, rfl, rfl, rfl, rfl, fun _ => rfl, fun other => absurd rfl (other v), fun _ => rfl⟩
  | wra1 v => exact ⟨_, rfl, rfl, rfl, rfl, fun _ => rfl, fun _ => rfl, fun other => absurd rfl (other v)⟩
  | rdb14 => exact ⟨_, exec_rdb14_eq s, rfl, rfl, rfl, fun _ => rfl, fun _ => rfl, fun _ => rfl⟩
  | wrb0 v => exact ⟨_, exec_wrb0_eq v s, rfl, rfl, rfl, fun _ => rfl, fun _ => rfl, fun _ => rfl⟩
  | wrb1 v => exact ⟨_, exec_wrb1_eq v s, rfl, rfl, rfl, fun _ => rfl, fun _ => rfl, fun _ => rfl⟩
  | _ => exact ⟨_, rfl, rfl, rfl, rfl, fun _ => rfl, fun _ => rfl, fun _ => rfl⟩

/-- An instruction has one outcome. -/
theorem of_exec_next {i : Instr} {s t : State} {P : State → Prop} (run : exec i s = .next t)
    (h : ∃ u, exec i s = .next u ∧ P u) : P t := by
  obtain ⟨u, run', hu⟩ := h
  cases run.symm.trans run'
  exact hu

theorem frame_of_exec {i : Instr} {s t : State} (run : exec i s = .next t) : ExecFrame i s t :=
  of_exec_next run (exec_frame i s)

/-- Settles O46: by the frame, an instruction other than `WRA0` or `WRA1` keeps the bank. -/
theorem banksChangeOnlyByChipAWrites : Obligations.BanksChangeOnlyByChipAWrites := by
  intro i s t run
  have frame := frame_of_exec run
  constructor
  · intro changed
    by_contra other
    exact changed (frame.romBank fun v is => other ⟨v, is⟩)
  · intro changed
    by_contra other
    exact changed (frame.ramBank fun v is => other ⟨v, is⟩)

/-- Settles O47: by the frame. -/
theorem onlyAStepChangesTheLines : Obligations.OnlyAStepChangesTheLines := by
  intro i s t run noStep
  simpa only [State.tickFields, Prod.mk.injEq] using (frame_of_exec run).tickFields noStep

/-! ### One step, by the host's pending calls -/

theorem nextCall_of_pending {s : State} {c : HostCall} {rest : List HostCall} (pending : s.pending = c :: rest) :
    nextCall s = some (c, { s with pending := rest }) := by
  rw [nextCall, pending]

/-- Settles O6: the next call is the head of the list. -/
theorem stepRunsTheHostsNextInstruction : Obligations.StepRunsTheHostsNextInstruction := fun _ _ _ _ pending asks =>
  step_of_instr (nextCall_of_pending pending) asks

/-- Settles O7: the placed word is the head of the list, and the list behind it is the old one. -/
theorem placedWordRunsNext : Obligations.PlacedWordRunsNext := by
  intro s w i small decoded
  refine step_of_instr (c := .word (tableWord 16 w)) rfl ?_
  rw [callInstr, tableWord, Nat.mod_eq_of_lt (show w < 2 ^ 16 from small)]
  exact decoded

/-- Settles O8: with no call pending the step is idle. -/
theorem idleBlockDoesNothing : Obligations.IdleBlockDoesNothing := fun s none =>
  step_of_idle (by rw [nextCall, none])

/-- Settles O9: the refusal is of the state with the call taken. -/
theorem refusedCallOnlySetsTheMark : Obligations.RefusedCallOnlySetsTheMark := fun _ _ _ _ pending noMeaning =>
  step_of_refused (nextCall_of_pending pending) noMeaning

/-! ### What every step keeps -/

/-- Settles O10: an instruction keeps the mark, a refusal sets it. -/
theorem onlyRefusalsTouchTheMark : Obligations.OnlyRefusalsTouchTheMark := by
  refine ⟨fun s t run marked => ?_, fun i s t run => (frame_of_exec run).refused⟩
  obtain ⟨-, rfl⟩ | ⟨c, rest, -, ⟨r, -, rfl⟩ | ⟨i, -, runs⟩⟩ := step_cases run
  · exact marked
  · rfl
  · exact (frame_of_exec runs).refused.trans marked

/-- Settles O43: an instruction keeps the parameters, and so does a refusal. -/
theorem parametersNeverChange : Obligations.ParametersNeverChange := by
  intro s t run
  obtain ⟨-, rfl⟩ | ⟨c, rest, -, ⟨r, -, rfl⟩ | ⟨i, -, runs⟩⟩ := step_cases run
  · rfl
  · rfl
  · exact (frame_of_exec runs).params

/-- A flag set after an instruction is one a step sets, or was set before. -/
theorem flagsLegal_of_exec {i : Instr} {s t : State} (run : exec i s = .next t) (legal : s.FlagsLegal) :
    t.FlagsLegal := by
  intro k set
  rw [(frame_of_exec run).params]
  obtain ⟨-, ⟨isCA, -⟩ | ⟨isCB, -⟩⟩ | ⟨wasSet, -⟩ := (of_exec_next run (flagTransitions i s) k).mp set
  · exact .inl isCA
  · exact .inr isCB
  · exact legal k wasSet

/-- Settles O42: the parameters stay, and only an instruction touches the flags. -/
theorem invariantKeptByEveryStep : Obligations.InvariantKeptByEveryStep := by
  intro s t ⟨admitted, legal⟩ run
  refine ⟨(congrArg Params.wellFormed (parametersNeverChange s t run)).trans admitted, ?_⟩
  obtain ⟨-, rfl⟩ | ⟨c, rest, -, ⟨r, -, rfl⟩ | ⟨i, -, runs⟩⟩ := step_cases run
  · exact legal
  · exact legal
  · exact flagsLegal_of_exec runs legal

/-- Settles O53: a well-formed call asks for an instruction, and the calls behind it are well formed too. -/
theorem dutifulHostIsNeverRefused : Obligations.DutifulHostIsNeverRefused := by
  intro s t duty run
  obtain ⟨-, rfl⟩ | ⟨c, rest, pending, outcome⟩ := step_cases run
  · exact ⟨duty, rfl⟩
  have wellFormed : c.wellFormed = true ∧ rest.all HostCall.wellFormed = true := by
    rwa [State.hostKeepsDuty, pending, List.all_cons, Bool.and_eq_true] at duty
  obtain ⟨callOk, restOk⟩ := wellFormed
  obtain ⟨i, asks⟩ := callInstr_of_wellFormed callOk
  obtain ⟨r, noMeaning, -⟩ | ⟨j, -, runs⟩ := outcome
  · rw [asks] at noMeaning
    cases noMeaning
  · have frame := frame_of_exec runs
    refine ⟨?_, frame.refused⟩
    rw [State.hostKeepsDuty, frame.pending]
    exact restOk

end Sys2Proof.Machine
end

section
/-! PROOFS. What the host sees of the reads and writes (20_memory.md sections 2, 3 and 5): O12, O18, O19 and O49 to
O52. -/

namespace Sys2Proof.Machine

/-! ### Replies -/

/-- Settles O12: the reads end in `returnByte`, the poll in `returnBit`, every other instruction in `done`. -/
theorem repliesByOperation : Obligations.RepliesByOperation := by
  intro i s
  cases i with
  | rda0 | rda1 | rda2 | rda3 | rda4 | rda5 | rda6 | rda7 | rda8 | rda9 | rda10 | rda11 | rda12 | rda13 | rda14 | rda15
  | rdb0 | rdb1 | rdb2 | rdb3 | rdb4 | rdb5 | rdb6 | rdb7 | rdb8 | rdb9 | rdb10 | rdb11 | rdb12 | rdb13 | rdb14 | rdb15 =>
    exact ⟨_, rfl, _, rfl⟩
  | irq => exact ⟨_, rfl, _, rfl⟩
  | _ => exact ⟨_, rfl, rfl⟩

/-! ### The timer placeholders -/

/-- Settles O19: each of the four writes is a store into its slot. -/
theorem timerWritesOnlyStoreTheByte : Obligations.TimerWritesOnlyStoreTheByte := by
  intro f k timer v s
  have run : exec (f v) s = writeRawA k v s := by fin_cases timer <;> rfl
  rw [run]
  exact writeRawA_stores k v s

/-- Settles O18: each read is the placeholder's, and a write of a slot draws nothing. -/
theorem timerReadsReturnFreeBytes : Obligations.TimerReadsReturnFreeBytes := by
  intro i timer s
  have read : ∀ t, exec i t = readTimer t := fun t => by fin_cases timer <;> rfl
  refine ⟨read s, fun f timerWrite v => ?_⟩
  have write : ∃ k, exec (f v) s = writeRawA k v s := by fin_cases timerWrite <;> exact ⟨_, rfl⟩
  obtain ⟨k, run⟩ := write
  exact ⟨_, _, run, read _, rfl⟩

/-! ### Repeated writes -/

theorem clearFlag_idem (k : Fin 7) (f : BitVec 7) : clearFlag k (clearFlag k f) = clearFlag k f := by
  rw [clearFlag, clearFlag, BitVec.and_assoc, BitVec.and_self]

theorem portWriteIfr_idem (q : Params) (p : Port) (f : BitVec 7) :
    portWriteIfr q p (portWriteIfr q p f) = portWriteIfr q p f := by
  unfold portWriteIfr
  cases q.portWriteClears with
  | none => rfl
  | same | cross => exact clearFlag_idem _ f

theorem ierWrite_idem (e : BitVec 7) (v : Byte) : ierWrite (ierWrite e v) v = ierWrite e v := by
  unfold ierWrite
  cases v.getLsbD 7 with
  | true => simp only [if_true, BitVec.or_assoc, BitVec.or_self]
  | false => simp only [Bool.false_eq_true, if_false, BitVec.and_assoc, BitVec.and_self]

/-- The meaning completes, and running it again changes nothing more. -/
def Idempotent (m : State → Host.Outcome State Fault Refusal) : Prop :=
  ∀ s, ∃ t, m s = .next t ∧ m t = .next t

theorem writeRawA_idempotent (k : Index) (v : Byte) : Idempotent (writeRawA k v) := fun s =>
  ⟨_, rfl, congrArg (fun r => done { s with chipA := { reg := r } }) (Vector.set_set v k.isLt)⟩

theorem writeRawB_idempotent (k : Index) (v : Byte) : Idempotent (writeRawB k v) := fun s =>
  ⟨_, rfl, congrArg (fun r => done { s with chipB := { s.chipB with reg := r } }) (Vector.set_set v k.isLt)⟩

theorem exec_wrb0_idempotent (v : Byte) : Idempotent (exec (.wrb0 v)) := fun s =>
  ⟨_, exec_wrb0_eq v s, by rw [exec_wrb0_eq, portWriteIfr_idem]⟩

theorem exec_wrb1_idempotent (v : Byte) : Idempotent (exec (.wrb1 v)) := fun s =>
  ⟨_, exec_wrb1_eq v s, by rw [exec_wrb1_eq, portWriteIfr_idem]⟩

theorem execWrb14_idempotent (v : Byte) : Idempotent (execWrb14 v) := fun s =>
  ⟨_, rfl, congrArg (fun e => done (s.setIer e)) (ierWrite_idem s.chipB.ier v)⟩

/-- Settles O50: a store, a port write and a write of IER repeat as shown; the other writes set a field to the byte. -/
theorem writesAreIdempotent : Obligations.WritesAreIdempotent := by
  intro i isWrite s
  cases i with
  | wra0 v | wra1 v | wrb2 v | wrb3 v | wrb13 v => exact ⟨_, rfl, rfl⟩
  | wra2 v | wra3 v | wra4 v | wra5 v | wra6 v | wra7 v | wra8 v | wra9 v | wra10 v | wra11 v | wra12 v | wra13 v
  | wra14 v | wra15 v => exact writeRawA_idempotent _ v s
  | wrb4 v | wrb5 v | wrb6 v | wrb7 v | wrb8 v | wrb9 v | wrb10 v | wrb11 v | wrb12 v | wrb15 v =>
    exact writeRawB_idempotent _ v s
  | wrb0 v => exact exec_wrb0_idempotent v s
  | wrb1 v => exact exec_wrb1_idempotent v s
  | wrb14 v => exact execWrb14_idempotent v s
  | _ => cases isWrite

/-! ### Repeated reads, and reads before the next step -/

theorem execRdb0_idempotent : Idempotent execRdb0 := fun s =>
  ⟨_, rfl, congrArg (fun f => returnByte s.chipB.rbB (s.setIfr f)) (clearFlag_idem s.params.cbFlagBit s.chipB.ifr)⟩

theorem execRdb1_idempotent : Idempotent execRdb1 := fun s =>
  ⟨_, rfl, congrArg (fun f => returnByte s.chipB.rbA (s.setIfr f)) (clearFlag_idem s.params.caFlagBit s.chipB.ifr)⟩

/-- Settles O51: a port read clears a flag that stays clear; a drawn read changes only the draw counter; every other
read leaves the state as it was but for its value. -/
theorem readsAndTheirSideEffects : Obligations.ReadsAndTheirSideEffects := by
  intro i isRead s
  cases i with
  | rdb0 =>
    obtain ⟨t, run, again⟩ := execRdb0_idempotent s
    exact ⟨t, run, fun other => absurd (by simp) other, fun _ => again⟩
  | rdb1 =>
    obtain ⟨t, run, again⟩ := execRdb1_idempotent s
    exact ⟨t, run, fun other => absurd (by simp) other, fun _ => again⟩
  | rda4 | rda5 | rda8 | rda9 => exact ⟨_, rfl, fun _ => rfl, fun settled => absurd (by simp) settled⟩
  | rdb14 => exact ⟨_, exec_rdb14_eq s, fun _ => rfl, fun settled => absurd (by simp) settled⟩
  | rda0 | rda1 | rda2 | rda3 | rda6 | rda7 | rda10 | rda11 | rda12 | rda13 | rda14 | rda15
  | rdb2 | rdb3 | rdb4 | rdb5 | rdb6 | rdb7 | rdb8 | rdb9 | rdb10 | rdb11 | rdb12 | rdb13 | rdb15 =>
    exact ⟨_, rfl, fun _ => rfl, fun _ => rfl⟩
  | _ => cases isRead

/-- Settles O52: the write leaves the readbacks, which only STEP changes, and the port reads return them. -/
theorem portReadBeforeTheNextStepIsOld : Obligations.PortReadBeforeTheNextStepIsOld := by
  intro f portWrite v s
  have noStep : f v ≠ .step := by fin_cases portWrite <;> exact nofun
  obtain ⟨t, run⟩ := exec_completes (f v) s
  obtain ⟨-, -, rbA, rbB, -⟩ := onlyAStepChangesTheLines (f v) s t run noStep
  exact ⟨t, _, _, run, rfl, congrArg Reply.byte rbB, rfl, congrArg Reply.byte rbA⟩

/-! ### The slots no operation observes -/

/-- The state with other contents of the raw slots. -/
def State.withSlots (a b : Vector Byte 16) (s : State) : State :=
  { s with chipA := { reg := a }, chipB := { s.chipB with reg := b } }

/-- The slots outside `hidden` hold the same bytes. -/
def AgreeOff (hidden : List Index) (x y : Vector Byte 16) : Prop :=
  ∀ k : Index, k ∉ hidden → y[k] = x[k]

theorem AgreeOff.set {hidden : List Index} {x y : Vector Byte 16} (agree : AgreeOff hidden x y) (k : Index) (v : Byte) :
    AgreeOff hidden (x.set k v) (y.set k v) := by
  intro j visible
  simp only [Fin.getElem_fin, Vector.getElem_set]
  split
  · rfl
  · exact agree j visible

section
variable {s : State} {a b : Vector Byte 16}
  (agreeA : AgreeOff hiddenSlotsA s.chipA.reg a) (agreeB : AgreeOff hiddenSlotsB s.chipB.reg b)

/-- Both outcomes are next states with the same reply that differ only in hidden slots. -/
def SameOutcome (r r' : Host.Outcome State Fault Refusal) : Prop :=
  ∃ t t', r = .next t ∧ r' = .next t' ∧ t'.reply = t.reply ∧ t.SameButHiddenSlots t'

include agreeA agreeB

theorem returnByte_sameOutcome {v v' : Byte} (sameValue : v' = v) :
    SameOutcome (returnByte v s) (returnByte v' (s.withSlots a b)) := by
  subst sameValue
  exact ⟨_, _, rfl, rfl, rfl, agreeA, agreeB, rfl⟩

theorem readRawA_sameOutcome {k : Index} (visible : k ∉ hiddenSlotsA) :
    SameOutcome (readRawA k s) (readRawA k (s.withSlots a b)) :=
  returnByte_sameOutcome agreeA agreeB (agreeA k visible)

theorem readRawB_sameOutcome {k : Index} (visible : k ∉ hiddenSlotsB) :
    SameOutcome (readRawB k s) (readRawB k (s.withSlots a b)) :=
  returnByte_sameOutcome agreeA agreeB (agreeB k visible)

theorem writeRawA_sameOutcome (k : Index) (v : Byte) :
    SameOutcome (writeRawA k v s) (writeRawA k v (s.withSlots a b)) :=
  ⟨_, _, rfl, rfl, rfl, agreeA.set k v, agreeB, rfl⟩

theorem writeRawB_sameOutcome (k : Index) (v : Byte) :
    SameOutcome (writeRawB k v s) (writeRawB k v (s.withSlots a b)) :=
  ⟨_, _, rfl, rfl, rfl, agreeA, agreeB.set k v, rfl⟩

/-- The raw reads are of visible slots, the raw writes store the same byte in both runs, and no other instruction names
a slot. -/
theorem exec_sameOutcome (i : Instr) : SameOutcome (exec i s) (exec i (s.withSlots a b)) := by
  cases i with
  | rda2 | rda3 | rda6 | rda7 | rda10 | rda11 | rda12 | rda13 | rda14 | rda15 =>
    exact readRawA_sameOutcome agreeA agreeB (by decide)
  | wra2 v | wra3 v | wra4 v | wra5 v | wra6 v | wra7 v | wra8 v | wra9 v | wra10 v | wra11 v | wra12 v | wra13 v
  | wra14 v | wra15 v => exact writeRawA_sameOutcome agreeA agreeB _ v
  | rdb4 | rdb5 | rdb6 | rdb7 | rdb8 | rdb9 | rdb10 | rdb11 | rdb12 | rdb15 =>
    exact readRawB_sameOutcome agreeA agreeB (by decide)
  | wrb4 v | wrb5 v | wrb6 v | wrb7 v | wrb8 v | wrb9 v | wrb10 v | wrb11 v | wrb12 v | wrb15 v =>
    exact writeRawB_sameOutcome agreeA agreeB _ v
  | rdb14 => exact ⟨_, _, exec_rdb14_eq s, exec_rdb14_eq _, rfl, agreeA, agreeB, rfl⟩
  | wrb0 v => exact ⟨_, _, exec_wrb0_eq v s, exec_wrb0_eq v _, rfl, agreeA, agreeB, rfl⟩
  | wrb1 v => exact ⟨_, _, exec_wrb1_eq v s, exec_wrb1_eq v _, rfl, agreeA, agreeB, rfl⟩
  | step => exact ⟨_, _, exec_step_eq s, exec_step_eq _, rfl, agreeA, agreeB, rfl⟩
  | _ => exact ⟨_, _, rfl, rfl, rfl, agreeA, agreeB, rfl⟩

theorem step_sameOutcome : SameOutcome (step s) (step (s.withSlots a b)) := by
  obtain ⟨none, idle⟩ | ⟨c, rest, pending, issued⟩ := nextCall_cases s
  · rw [idleBlockDoesNothing _ none, idleBlockDoesNothing (s.withSlots a b) none]
    exact ⟨_, _, rfl, rfl, rfl, agreeA, agreeB, rfl⟩
  · cases call : callInstr c with
    | error r =>
      rw [refusedCallOnlySetsTheMark s c rest r pending call,
        refusedCallOnlySetsTheMark (s.withSlots a b) c rest r pending call]
      exact ⟨_, _, rfl, rfl, rfl, agreeA, agreeB, rfl⟩
    | ok i =>
      rw [stepRunsTheHostsNextInstruction s c rest i pending call,
        stepRunsTheHostsNextInstruction (s.withSlots a b) c rest i pending call]
      exact exec_sameOutcome (s := { s with pending := rest }) agreeA agreeB i

end

/-- Settles O49: a state that differs only in hidden slots is the first with other slots that agree off them. -/
theorem hiddenSlotsAreNeverObserved : Obligations.HiddenSlotsAreNeverObserved := by
  intro s s' ⟨agreeA, agreeB, frame⟩
  have same : s' = s.withSlots s'.chipA.reg s'.chipB.reg := frame
  rw [same]
  exact step_sameOutcome agreeA agreeB

end Sys2Proof.Machine
end
